-- ==== Sys2Proof/Word.lean ====
section
/-! DEFINITION. The word types of the core: a byte, a 32-bit register and a block of four columns. -/

namespace Sys2Proof

/-- A byte, "an 8-bit unsigned value" (00_scope.md R11). -/
abbrev Byte := BitVec 8

/-- A 32-bit register value; bit 31 is the most significant (00_scope.md R10, R11). -/
abbrev Word := BitVec 32

/-- The four registers DATA0 to DATA3: element `c` is column `c` of the state (10_state.md R31). -/
abbrev Block := Vector Word 4

/-- The word with every bit 0. -/
abbrev Word.zero : Word := 0#32

end Sys2Proof
end

