-- ==== Sys2Proof/Syntax.lean ====
section
/-! DEFINITION. The sixteen commands of the core, one constructor for each row of the opcode map (30_encoding.md R94). -/

namespace Sys2Proof

/-- A command with its decoded operands (30_encoding.md R93, R94). -/
inductive Instr where
  /-- `NOP` (40_command_control.md R117). -/
  | nop
  /-- `EXPAND_KEY` (43_key_schedule.md R174). -/
  | expandKey
  /-- `ENCRYPT nr`, the declared round count (44_forward_pipeline.md R196). -/
  | encrypt (nr : BitVec 4)
  /-- `DECRYPT nr`, the declared round count (45_inverse_pipeline.md R225). -/
  | decrypt (nr : BitVec 4)
  /-- `SUB_BYTES` (44_forward_pipeline.md R197). -/
  | subBytes
  /-- `SHIFT_ROWS` (44_forward_pipeline.md R198). -/
  | shiftRows
  /-- `MIX_COLUMNS` (44_forward_pipeline.md R199). -/
  | mixColumns
  /-- `ADD_ROUND_KEY r`, the round index (44_forward_pipeline.md R200). -/
  | addRoundKey (r : BitVec 4)
  /-- `INV_SUB_BYTES` (45_inverse_pipeline.md R226). -/
  | invSubBytes
  /-- `INV_SHIFT_ROWS` (45_inverse_pipeline.md R227). -/
  | invShiftRows
  /-- `INV_MIX_COLUMNS` (45_inverse_pipeline.md R228). -/
  | invMixColumns
  /-- `GF_MUL a, b` (41_gf_arith.md R135). -/
  | gfMul (a b : Byte)
  /-- `GF_TBL`, table selector `t` and byte `x`; the selectors 6 and 7 are not well formed (41_gf_arith.md R136). -/
  | gfTbl (t : BitVec 3) (x : Byte)
  /-- `SUB_BYTE b` (42_substitution.md R157). -/
  | subByte (b : Byte)
  /-- `INV_SUB_BYTE b` (42_substitution.md R158). -/
  | invSubByte (b : Byte)
  /-- `RCON j` (42_substitution.md R159). -/
  | rcon (j : BitVec 4)
  deriving DecidableEq, Repr

end Sys2Proof
end

