-- ==== Sys2Proof/WellFormed.lean ====
section
/-! DEFINITION. Which commands exist: every operand value but the two reserved table selectors. -/

namespace Sys2Proof

/-- The check on a command's operands: GF_TBL's selector names one of the six tables
(30_encoding.md R93, R95 point 3). Every other operand is legal at every value of its field. -/
def Instr.wellFormed : Instr → Bool
  | .nop => true
  | .expandKey => true
  | .encrypt _ => true
  | .decrypt _ => true
  | .subBytes => true
  | .shiftRows => true
  | .mixColumns => true
  | .addRoundKey _ => true
  | .invSubBytes => true
  | .invShiftRows => true
  | .invMixColumns => true
  | .gfMul _ _ => true
  | .gfTbl t _ => decide (t.toNat < 6)
  | .subByte _ => true
  | .invSubByte _ => true
  | .rcon _ => true

/-- `i` is a command the core has. -/
abbrev WellFormed (i : Instr) : Prop := i.wellFormed = true

end Sys2Proof
end

