-- ==== Sys2Proof/Decode.lean ====
section
/-! DEFINITION. Command words: their fields, formats, decoder and encoder (30_encoding.md R90 to R97). -/

namespace Sys2Proof

/-- Why a command word is illegal, one reason for each point of 30_encoding.md R95. -/
inductive DecodeError where
  /-- R95 point 1: the opcode is not assigned. -/
  | unassignedOpcode (op : Byte)
  /-- R95 point 2: a bit the opcode's format requires to be 0 is 1. -/
  | bitOutsideFormat (op : Byte)
  /-- R95 point 3: GF_TBL with selector 6 or 7. -/
  | reservedTable (t : BitVec 3)
  deriving DecidableEq, Repr

/-- The five formats of 30_encoding.md R92. -/
inductive Format where
  | z | n | a | ab | ta
  deriving DecidableEq, Repr

/-- A field's value with its lowest bit at bit `lo` of a 32-bit word, every other bit 0 (00_scope.md R11). -/
def placeField {n : Nat} (v : BitVec n) (lo : Nat) : Word := v.setWidth 32 <<< lo

/-! The fields of a command word (30_encoding.md R91). -/

/-- OP, cw[7:0]. -/
def fieldOp (cw : Word) : Byte := cw.extractLsb' 0 8
/-- N, cw[11:8]. -/
def fieldN (cw : Word) : BitVec 4 := cw.extractLsb' 8 4
/-- T, cw[10:8]. -/
def fieldT (cw : Word) : BitVec 3 := cw.extractLsb' 8 3
/-- A, cw[23:16]. -/
def fieldA (cw : Word) : Byte := cw.extractLsb' 16 8
/-- B, cw[31:24]. -/
def fieldB (cw : Word) : Byte := cw.extractLsb' 24 8

/-- The legality mask of a format: the bits that are checked (30_encoding.md R92). -/
def Format.mask : Format → Word
  | .z => 0xFFFFFFFF#32
  | .n => 0xFFFFF0FF#32
  | .a => 0xFF00FFFF#32
  | .ab => 0x0000FFFF#32
  | .ta => 0xFF00F8FF#32

/-- "A word is of format F for opcode op iff (cw & mask_F) == op" (30_encoding.md R92). -/
def hasFormat (f : Format) (op : Byte) (cw : Word) : Bool :=
  cw &&& f.mask == op.setWidth 32

/-- `i` if the word has the format, the named rejection if not (30_encoding.md R95 point 2). -/
def checked (f : Format) (cw : Word) (i : Instr) : Except DecodeError Instr :=
  if hasFormat f (fieldOp cw) cw then .ok i else .error (.bitOutsideFormat (fieldOp cw))

/-- The decoder, total on every 32-bit word (30_encoding.md R94, R95, R97). -/
def decode (cw : Word) : Except DecodeError Instr :=
  match (fieldOp cw).toNat with
  | 0x00 => checked .z cw .nop
  | 0x01 => checked .z cw .expandKey
  | 0x02 => checked .n cw (.encrypt (fieldN cw))
  | 0x03 => checked .n cw (.decrypt (fieldN cw))
  | 0x10 => checked .z cw .subBytes
  | 0x11 => checked .z cw .shiftRows
  | 0x12 => checked .z cw .mixColumns
  | 0x13 => checked .n cw (.addRoundKey (fieldN cw))
  | 0x18 => checked .z cw .invSubBytes
  | 0x19 => checked .z cw .invShiftRows
  | 0x1A => checked .z cw .invMixColumns
  | 0x20 => checked .ab cw (.gfMul (fieldA cw) (fieldB cw))
  | 0x21 =>
    if (fieldT cw).toNat < 6 then checked .ta cw (.gfTbl (fieldT cw) (fieldA cw))
    else .error (.reservedTable (fieldT cw))
  | 0x22 => checked .a cw (.subByte (fieldA cw))
  | 0x23 => checked .a cw (.invSubByte (fieldA cw))
  | 0x24 => checked .n cw (.rcon (fieldN cw))
  | _ => .error (.unassignedOpcode (fieldOp cw))

/-! The encoder, from the same tables. -/

/-- A command word from its fields OP at 0, N at 8, A at 16 and B at 24; bits 15:12 belong to no field and are 0
(30_encoding.md R91). -/
def commandWord (op : Byte) (n : BitVec 4) (a b : Byte) : Word :=
  placeField b 24 ||| placeField a 16 ||| placeField n 8 ||| placeField op 0

/-- The opcode of a command (30_encoding.md R94). -/
def Instr.opcode : Instr → Byte
  | .nop => 0x00
  | .expandKey => 0x01
  | .encrypt _ => 0x02
  | .decrypt _ => 0x03
  | .subBytes => 0x10
  | .shiftRows => 0x11
  | .mixColumns => 0x12
  | .addRoundKey _ => 0x13
  | .invSubBytes => 0x18
  | .invShiftRows => 0x19
  | .invMixColumns => 0x1A
  | .gfMul _ _ => 0x20
  | .gfTbl _ _ => 0x21
  | .subByte _ => 0x22
  | .invSubByte _ => 0x23
  | .rcon _ => 0x24

/-- The format of a command (30_encoding.md R94). -/
def Instr.format : Instr → Format
  | .nop => .z
  | .expandKey => .z
  | .encrypt _ => .n
  | .decrypt _ => .n
  | .subBytes => .z
  | .shiftRows => .z
  | .mixColumns => .z
  | .addRoundKey _ => .n
  | .invSubBytes => .z
  | .invShiftRows => .z
  | .invMixColumns => .z
  | .gfMul _ _ => .ab
  | .gfTbl _ _ => .ta
  | .subByte _ => .a
  | .invSubByte _ => .a
  | .rcon _ => .n

/-- The command word of a command (30_encoding.md R91, R94, R98). -/
def encode : Instr → Word
  | .nop => commandWord 0x00 0 0 0
  | .expandKey => commandWord 0x01 0 0 0
  | .encrypt nr => commandWord 0x02 nr 0 0
  | .decrypt nr => commandWord 0x03 nr 0 0
  | .subBytes => commandWord 0x10 0 0 0
  | .shiftRows => commandWord 0x11 0 0 0
  | .mixColumns => commandWord 0x12 0 0 0
  | .addRoundKey r => commandWord 0x13 r 0 0
  | .invSubBytes => commandWord 0x18 0 0 0
  | .invShiftRows => commandWord 0x19 0 0 0
  | .invMixColumns => commandWord 0x1A 0 0 0
  | .gfMul a b => commandWord 0x20 0 a b
  | .gfTbl t x => commandWord 0x21 (t.setWidth 4) x 0
  | .subByte b => commandWord 0x22 0 b 0
  | .invSubByte b => commandWord 0x23 0 b 0
  | .rcon j => commandWord 0x24 j 0 0

/-- The instruction the decoder reads from a word given as the opcode table numbers its bits: bit 0 is
the least significant bit of the one 32-bit command word, and every bit at and above `nbits` is 0. -/
def decodeTableWord (nbits w : Nat) : Option Instr :=
  match decode (BitVec.ofNat 32 (w % 2 ^ nbits)) with
  | .ok i => some i
  | .error _ => none

end Sys2Proof
end

