-- ==== Sys2Proof/Config.lean ====
section
/-! DEFINITION. The values the spec leaves open: free values, constants with no body. -/

namespace Sys2Proof

/-- The value a busy read of DATA, RESULT or RK returns: `draw()` (20_memory.md R71, 93 U1).
The first argument numbers the draws of a run, so each is fresh; the list holds the register read and
everything the host could otherwise see, so no claim can rest on two runs drawing alike by accident.
It takes no index of the instance (log entry 19). -/
opaque Config.draw : Nat → List Word → Word

/-- How many steps of the host come between an accepted CMD write and its completion step: the parameter
LATENCY(op), finite and otherwise unspecified (40_command_control.md R119). The list holds the command
word, the key and the data, because latency may depend on all of them (70_reset_and_hazards.md R290).
It takes no index of the instance (log entry 19). -/
opaque Config.latency : Nat → List Word → Nat

end Sys2Proof
end

