-- ==== Sys2Proof/Machine/State.lean ====
section
/-! DEFINITION. The state of one core and of the host that drives it, and its value right after reset. -/

namespace Sys2Proof.Machine

/-- The outcome codes of STATUS.ERR (10_state.md R24). Codes 5 to 15 are never written, so none exists here
(60_exceptions.md R251, log entry 9). -/
inductive ErrCode where
  /-- 0: the command completed and made its writes. -/
  | ok
  /-- 1: EXPAND_KEY with CFG.KEYLEN not 16, 24 or 32. -/
  | invalidKeyLength
  /-- 2: ENCRYPT or DECRYPT with CFG.BLKLEN not 16. -/
  | invalidBlockLength
  /-- 3: the held schedule does not match the declared round count or index. -/
  | scheduleMismatch
  /-- 4: the command word is not a legal encoding. -/
  | illegalCommand
  deriving DecidableEq, Repr

/-- What the host does at the core's pins. A register is named by the port's word index addr[8:2]
(20_memory.md R61). -/
inductive HostOp where
  /-- `MemRead` of the register at byte offset `4 * idx` (20_memory.md R66). -/
  | read (idx : BitVec 7)
  /-- `MemWrite` of `v` to the register at byte offset `4 * idx` (20_memory.md R66). -/
  | write (idx : BitVec 7) (v : Word)
  /-- `wait`: read STATUS until BUSY reads 0 (30_encoding.md R99). -/
  | wait
  /-- Drive `rst_n` to a level (70_reset_and_hazards.md R280). -/
  | setRst (level : Bool)
  deriving DecidableEq, Repr

/-- Why the machine stops. -/
inductive Fault where
  /-- A host read, write or wait while `rst_n` is 0: "the model gives it no step, which is the stuck reading"
  (70_reset_and_hazards.md R282). Raised by a step in reset, by no command. Safe: the model stops where a
  chip might go on. -/
  | accessWhileInReset
  deriving DecidableEq, Repr

/-- Why an instruction has no meaning. -/
inductive Refusal where
  /-- The command has no meaning in the model yet. Raised only by an arm of `exec`; no arm raises it now. Safe. -/
  | notModelled (mnemonic : String)
  deriving DecidableEq, Repr

/-- The core's registers and internal state, and the host's side of the port. -/
structure State where
  /-- KEY0 to KEY7 (10_state.md R29). -/
  key : Vector Word 8
  /-- DATA0 to DATA3; element c is column c of the state (10_state.md R31). -/
  data : Block
  /-- CFG.KEYLEN (10_state.md R27). -/
  keylen : BitVec 6
  /-- CFG.BLKLEN (10_state.md R27). -/
  blklen : BitVec 5
  /-- RESULT[7:0]; the other bits of RESULT read 0 (10_state.md R28). -/
  result : Byte
  /-- STATUS.ERR (10_state.md R24). -/
  err : ErrCode
  /-- STATUS.SWORDS (10_state.md R25). -/
  swords : BitVec 6
  /-- RKRAM, the round-key words (10_state.md R33). -/
  rkram : Vector Word 60
  /-- PEND, the pending command word (10_state.md R34). -/
  pend : Option Word
  /-- The model's own: steps the host still has before the pending command completes (log entry 3). -/
  latency : Nat
  /-- The level of the `rst_n` input (70_reset_and_hazards.md R280). -/
  rstN : Bool
  /-- The model's own: how many free values have been used (log entry 2). -/
  draws : Nat
  /-- The model's own: the host accesses issued and not yet made, first one first (log entry 4). -/
  host : List HostOp
  /-- The model's own: the values the host's reads returned, first one first (log entry 5). -/
  reads : List Word
  deriving DecidableEq, Repr

/-- The machine right after reset (10_state.md R41): idle, no schedule, every register 0. RKRAM's content is
unspecified there and unobservable; it is 0 here (log entry 1). The host has issued nothing. -/
def State.reset : State where
  key := Vector.replicate 8 0
  data := Vector.replicate 4 0
  keylen := 0
  blklen := 0
  result := 0
  err := .ok
  swords := 0
  rkram := Vector.replicate 60 0
  pend := none
  latency := 0
  rstN := true
  draws := 0
  host := []
  reads := []

end Sys2Proof.Machine
end

