-- ==== Sys2Proof/Machine/Flags.lean ====
section
/-! DEFINITION. The STATUS and CFG words, their fields, and the checks that give STATUS.ERR. -/

namespace Sys2Proof.Machine

/-- The 4-bit code of an outcome (10_state.md R24). -/
def ErrCode.code : ErrCode → BitVec 4
  | .ok => 0
  | .invalidKeyLength => 1
  | .invalidBlockLength => 2
  | .scheduleMismatch => 3
  | .illegalCommand => 4

/-- `STATUS.BUSY = (PEND ≠ none)` (10_state.md R23, R34). -/
def State.busy (s : State) : Bool := s.pend.isSome

/-- The STATUS word: SWORDS in 13:8, ERR in 7:4, BUSY in 0, every other bit 0 (10_state.md R22). -/
def statusWord (s : State) : Word :=
  Sys2Proof.placeField s.swords 8 ||| Sys2Proof.placeField s.err.code 4 |||
    Sys2Proof.placeField (BitVec.ofBool s.busy) 0

/-- The CFG word: BLKLEN in 12:8, KEYLEN in 5:0, every other bit 0 (10_state.md R27). -/
def cfgWord (s : State) : Word := Sys2Proof.placeField s.blklen 8 ||| Sys2Proof.placeField s.keylen 0

/-- The KEYLEN field of a word written to CFG (10_state.md R27). -/
def cfgKeylen (v : Word) : BitVec 6 := v.extractLsb' 0 6

/-- The BLKLEN field of a word written to CFG (10_state.md R27). -/
def cfgBlklen (v : Word) : BitVec 5 := v.extractLsb' 8 5

/-- `Nk` of a declared key length, none if it is not 16, 24 or 32 (00_scope.md R8, 43_key_schedule.md R174). -/
def keyWords (keylen : BitVec 6) : Option Nat :=
  match keylen.toNat with
  | 16 => some 4
  | 24 => some 6
  | 32 => some 8
  | _ => none

/-- The checks of ENCRYPT and DECRYPT, block length before schedule (44_forward_pipeline.md R196, 60_exceptions.md R257). -/
def cipherCheck (nr : BitVec 4) (s : State) : Option ErrCode :=
  if s.blklen.toNat ≠ 16 then some .invalidBlockLength
  else if s.swords.toNat ≠ 4 * (nr.toNat + 1) then some .scheduleMismatch
  else none

/-- The check of ADD_ROUND_KEY: round key `r` is held (44_forward_pipeline.md R200). -/
def roundKeyCheck (r : BitVec 4) (s : State) : Option ErrCode :=
  if s.swords.toNat ≤ 4 * r.toNat + 3 then some .scheduleMismatch else none

end Sys2Proof.Machine
end

