-- ==== Sys2Proof/Machine/Operands.lean ====
section
/-! DEFINITION. The byte views of registers: packing, state bytes, key bytes, block bytes. -/

namespace Sys2Proof.Machine

/-- Byte `j` of a register value: bits `[31-8j : 24-8j]`, so byte 0 is the most significant (20_memory.md R62). -/
def byteOf (w : Word) (j : Fin 4) : Byte := w.extractLsb' (24 - 8 * j.val) 8

/-- The register value `{b0, b1, b2, b3}` (20_memory.md R62, 00_scope.md R12). -/
def packWord (b0 b1 b2 b3 : Byte) : Word :=
  Sys2Proof.placeField b0 24 ||| Sys2Proof.placeField b1 16 ||| Sys2Proof.placeField b2 8 ||| Sys2Proof.placeField b3 0

/-- `s[r][c] = DATA[c][31-8r : 24-8r]` (10_state.md R31). -/
def stateByte (s : Block) (r c : Fin 4) : Byte := byteOf s[c] r

/-- The block whose byte in row `r`, column `c` is `f r c` (10_state.md R31). -/
def ofMatrix (f : Fin 4 → Fin 4 → Byte) : Block :=
  #v[packWord (f 0 0) (f 1 0) (f 2 0) (f 3 0), packWord (f 0 1) (f 1 1) (f 2 1) (f 3 1),
    packWord (f 0 2) (f 1 2) (f 2 2) (f 3 2), packWord (f 0 3) (f 1 3) (f 2 3) (f 3 3)]

/-- Block byte `n`: state byte `s[n mod 4][n div 4]` (20_memory.md R64, 00_scope.md R13). -/
def blockByte (s : Block) (n : Fin 16) : Byte :=
  stateByte s ⟨n.val % 4, Nat.mod_lt _ (Nat.succ_pos 3)⟩ ⟨n.val / 4, Nat.div_lt_of_lt_mul n.isLt⟩

/-- Key byte `m`: `KEY[m div 4][31 - 8(m mod 4) : 24 - 8(m mod 4)]` (20_memory.md R63). -/
def keyByte (key : Vector Word 8) (m : Fin 32) : Byte :=
  byteOf (key[m.val / 4]'(Nat.div_lt_of_lt_mul m.isLt)) ⟨m.val % 4, Nat.mod_lt _ (Nat.succ_pos 3)⟩

/-- Word `i` of the round-key RAM; no rule reads at or beyond 60 (10_state.md R33). -/
def ramWord (ram : Vector Word 60) (i : Nat) : Word := if h : i < 60 then ram[i] else 0

/-- A result byte as a register value: `zext_32(b)` (10_state.md R28, 00_scope.md R11). -/
def zext32 (b : Byte) : Word := b.setWidth 32

end Sys2Proof.Machine
end

