-- ==== Sys2Proof/Machine/Ops.lean ====
section
/-! DEFINITION. The named operations on the state: field updates, completion with or without an error, acceptance of a
command, draws, and the hold in reset. -/

namespace Sys2Proof.Machine

/-! Updates of the registers a command writes (10_state.md R36). -/

/-- Write STATUS.ERR. -/
def State.setErr (s : State) (e : ErrCode) : State := { s with err := e }

/-- Write DATA0 to DATA3. -/
def State.setData (s : State) (d : Block) : State := { s with data := d }

/-- Write RESULT[7:0]. -/
def State.setResult (s : State) (b : Byte) : State := { s with result := b }

/-- `RKRAM[i] <- w[i]` for i below the length of the schedule, and SWORDS its length; the words above keep
their content (43_key_schedule.md R174, 10_state.md R33). -/
def State.setSchedule (s : State) (w : List Word) : State :=
  { s with
    rkram := Vector.ofFn fun i => if i.val < w.length then w.getD i.val 0 else s.rkram[i]
    swords := BitVec.ofNat 6 w.length }

/-! The two ways a command ends (00_scope.md R14). There is no trap: an error is a completion (60_exceptions.md R250). -/

/-- `complete()`: ERR <- 0 after the command's writes (40_command_control.md R114). -/
def complete (s : State) : Host.Outcome State Fault Refusal := .next (s.setErr .ok)

/-- `raise Err(code)`: ERR <- code and nothing else (40_command_control.md R115). -/
def raiseErr (e : ErrCode) (s : State) : Host.Outcome State Fault Refusal := .next (s.setErr e)

/-- `PEND <- none` at the end of a completion (40_command_control.md R111). -/
def State.retire (s : State) : State := { s with pend := none }

/-! The register values a host can see, and the draws. -/

/-- A read of RK[i] while idle: RKRAM[i] below SWORDS, 0 at and above it (10_state.md R32). -/
def rkWindow (s : State) (i : Fin 60) : Word := if i.val < s.swords.toNat then s.rkram[i] else 0

/-- Everything of the core that a host can see or has written. Free values may depend on all of it, and on nothing
else: round-key words at and above SWORDS are "never visible" (10_state.md R33, log entry 18). -/
def State.visible (s : State) : List Word :=
  s.pend.toList ++ s.key.toList ++ s.data.toList ++ [statusWord s, cfgWord s, zext32 s.result]
    ++ (List.finRange 60).map (rkWindow s)

/-- One `draw()`: a fresh free value for a busy read of the register at `idx` (20_memory.md R71). -/
def drawWord (idx : BitVec 7) (s : State) : Word × State :=
  (Config.draw s.draws (idx.setWidth 32 :: s.visible), { s with draws := s.draws + 1 })

/-- Acceptance of a CMD write: PEND <- v, and the free latency of this command (40_command_control.md R110, R119). -/
def State.accept (s : State) (v : Word) : State :=
  { s with
    pend := some v
    latency := Config.latency s.draws (v :: s.visible)
    draws := s.draws + 1 }

/-- One step of waiting passes. -/
def State.setLatency (s : State) (n : Nat) : State := { s with latency := n }

/-- `rst_n` low: every piece of the core's state at its reset value, a pending command abandoned with no write
(70_reset_and_hazards.md R280, R281). The pin, the host's side and the draw counter are not the core's. -/
def State.holdReset (s : State) : State :=
  { State.reset with rstN := s.rstN, draws := s.draws, host := s.host, reads := s.reads }

/-! The host's side of the port. -/

/-- The accesses the host has still to make. -/
def State.setHost (s : State) (ops : List HostOp) : State := { s with host := ops }

/-- A read returns `v` to the host. -/
def State.recordRead (s : State) (v : Word) : State := { s with reads := s.reads ++ [v] }

/-- Drive the `rst_n` input. -/
def State.setRstN (s : State) (level : Bool) : State := { s with rstN := level }

end Sys2Proof.Machine
end

