-- ==== Sys2Proof/Machine/CommandControl.lean ====
section
/-! DEFINITION. The meaning of NOP (40_command_control.md). -/

namespace Sys2Proof.Machine

/-- NOP: `complete()` (40_command_control.md R117). -/
def execNop (s : State) : Host.Outcome State Fault Refusal := complete s

end Sys2Proof.Machine
end

