-- ==== Sys2Proof/Machine/ForwardPipeline.lean ====
section
/-! DEFINITION. The forward round operations, the cipher, and the meanings of ENCRYPT, SUB_BYTES, SHIFT_ROWS,
MIX_COLUMNS and ADD_ROUND_KEY (44_forward_pipeline.md). -/

namespace Sys2Proof.Machine

/-- `SubBytes`: `s'[r][c] = SubByte(s[r][c])` (44_forward_pipeline.md R190). -/
def subBytes (s : Block) : Block := ofMatrix fun r c => sbox (stateByte s r c)

/-- `ShiftRows`: `s'[r][c] = s[r][(c + r) mod 4]`; addition in `Fin 4` is modulo 4 (44_forward_pipeline.md R191). -/
def shiftRows (s : Block) : Block := ofMatrix fun r c => stateByte s r (c + r)

/-- The new bytes of one column `c0, c1, c2, c3`, by row (44_forward_pipeline.md R192). -/
def mixByte (c0 c1 c2 c3 : Byte) : Fin 4 → Byte
  | 0 => mul2 c0 ^^^ mul3 c1 ^^^ c2 ^^^ c3
  | 1 => c0 ^^^ mul2 c1 ^^^ mul3 c2 ^^^ c3
  | 2 => c0 ^^^ c1 ^^^ mul2 c2 ^^^ mul3 c3
  | 3 => mul3 c0 ^^^ c1 ^^^ c2 ^^^ mul2 c3

/-- `MixColumns`: every column transformed on its own, `ck` the byte of the column in row k (44_forward_pipeline.md R192). -/
def mixColumns (s : Block) : Block :=
  ofMatrix fun r c => mixByte (stateByte s 0 c) (stateByte s 1 c) (stateByte s 2 c) (stateByte s 3 c) r

/-- `AddRoundKey` in register form: `DATA[c] <- DATA[c] xor RK[4*rnd + c]` (44_forward_pipeline.md R193). -/
def addRoundKey (s : Block) (w : Vector Word 60) (rnd : Nat) : Block :=
  #v[s[0] ^^^ ramWord w (4 * rnd), s[1] ^^^ ramWord w (4 * rnd + 1),
    s[2] ^^^ ramWord w (4 * rnd + 2), s[3] ^^^ ramWord w (4 * rnd + 3)]

/-- One of the rounds 1 to Nr-1 (44_forward_pipeline.md R194). -/
def forwardRound (w : Vector Word 60) (s : Block) (rnd : Nat) : Block :=
  addRoundKey (mixColumns (shiftRows (subBytes s))) w rnd

/-- `Cipher`: initial key addition, the rounds 1 to Nr-1, and the last round with no MixColumns
(44_forward_pipeline.md R194, R195). -/
def cipher (w : Vector Word 60) (nr : Nat) (s : Block) : Block :=
  let mid := (List.range' 1 (nr - 1)).foldl (forwardRound w) (addRoundKey s w 0)
  addRoundKey (shiftRows (subBytes mid)) w nr

/-- ENCRYPT: the checks of R257, then the cipher on DATA in place (44_forward_pipeline.md R196). -/
def execEncrypt (nr : BitVec 4) (s : State) : Host.Outcome State Fault Refusal :=
  match cipherCheck nr s with
  | some e => raiseErr e s
  | none => complete (s.setData (cipher s.rkram nr.toNat s.data))

/-- SUB_BYTES: one SubBytes step on DATA (44_forward_pipeline.md R197). -/
def execSubBytes (s : State) : Host.Outcome State Fault Refusal := complete (s.setData (subBytes s.data))

/-- SHIFT_ROWS: one ShiftRows step on DATA (44_forward_pipeline.md R198). -/
def execShiftRows (s : State) : Host.Outcome State Fault Refusal := complete (s.setData (shiftRows s.data))

/-- MIX_COLUMNS: one MixColumns step on DATA (44_forward_pipeline.md R199). -/
def execMixColumns (s : State) : Host.Outcome State Fault Refusal := complete (s.setData (mixColumns s.data))

/-- ADD_ROUND_KEY: ScheduleMismatch unless round key r is held, else XOR it into DATA (44_forward_pipeline.md R200). -/
def execAddRoundKey (r : BitVec 4) (s : State) : Host.Outcome State Fault Refusal :=
  match roundKeyCheck r s with
  | some e => raiseErr e s
  | none => complete (s.setData (addRoundKey s.data s.rkram r.toNat))

end Sys2Proof.Machine
end

