-- ==== Sys2Proof/Machine/GfArith.lean ====
section
/-! DEFINITION. GF(2^8) multiplication and the meanings of GF_MUL and GF_TBL (41_gf_arith.md). -/

namespace Sys2Proof.Machine

/-- `xtime(a)`, field doubling: shift left and fold the bit shifted out back in with 0x1B (41_gf_arith.md R131). -/
def xtime (a : Byte) : Byte := (a <<< 1) ^^^ (if a.getLsbD 7 then 0x1B#8 else 0x00#8)

/-- The iterations of the multiply: accumulate `a` if the low bit of `b` is 1, double `a`, shift `b` right
(41_gf_arith.md R130). -/
def gfLoop : Nat → Byte → Byte → Byte → Byte
  | 0, p, _, _ => p
  | k + 1, p, a, b => gfLoop k (if b.getLsbD 0 then p ^^^ a else p) (xtime a) (b >>> 1)

/-- `GFMul(a, b)`: "8 iterations over bits of b, low bit first" (41_gf_arith.md R130). -/
def gfMul (a b : Byte) : Byte := gfLoop 8 0x00#8 a b

/-- `MULc[x]` for the table that selector `t` names, none for the selectors 6 and 7 (30_encoding.md R93). -/
def mulTable (t : BitVec 3) (x : Byte) : Option Byte :=
  match t.toNat with
  | 0 => some (mul2 x)
  | 1 => some (mul3 x)
  | 2 => some (mul9 x)
  | 3 => some (mul11 x)
  | 4 => some (mul13 x)
  | 5 => some (mul14 x)
  | _ => none

/-- GF_MUL: RESULT <- GFMul(A, B) (41_gf_arith.md R135). -/
def execGfMul (a b : Byte) (s : State) : Host.Outcome State Fault Refusal :=
  complete (s.setResult (gfMul a b))

/-- GF_TBL: RESULT <- MULc[A]; a selector that names no table is IllegalCommand (41_gf_arith.md R136). -/
def execGfTbl (t : BitVec 3) (x : Byte) (s : State) : Host.Outcome State Fault Refusal :=
  match mulTable t x with
  | some v => complete (s.setResult v)
  | none => raiseErr .illegalCommand s

end Sys2Proof.Machine
end

