-- ==== Sys2Proof/Machine/InversePipeline.lean ====
section
/-! DEFINITION. The inverse round operations, the inverse cipher, and the meanings of DECRYPT, INV_SUB_BYTES,
INV_SHIFT_ROWS and INV_MIX_COLUMNS (45_inverse_pipeline.md). -/

namespace Sys2Proof.Machine

/-- `InvShiftRows`: `s'[r][c] = s[r][(c - r) mod 4]`; subtraction in `Fin 4` is modulo 4 (45_inverse_pipeline.md R220). -/
def invShiftRows (s : Block) : Block := ofMatrix fun r c => stateByte s r (c - r)

/-- `InvSubBytes`: `s'[r][c] = InvSubByte(s[r][c])` (45_inverse_pipeline.md R221). -/
def invSubBytes (s : Block) : Block := ofMatrix fun r c => invSbox (stateByte s r c)

/-- The new bytes of one column `c0, c1, c2, c3`, by row (45_inverse_pipeline.md R222). -/
def invMixByte (c0 c1 c2 c3 : Byte) : Fin 4 → Byte
  | 0 => mul14 c0 ^^^ mul11 c1 ^^^ mul13 c2 ^^^ mul9 c3
  | 1 => mul9 c0 ^^^ mul14 c1 ^^^ mul11 c2 ^^^ mul13 c3
  | 2 => mul13 c0 ^^^ mul9 c1 ^^^ mul14 c2 ^^^ mul11 c3
  | 3 => mul11 c0 ^^^ mul13 c1 ^^^ mul9 c2 ^^^ mul14 c3

/-- `InvMixColumns`: every column transformed on its own (45_inverse_pipeline.md R222). -/
def invMixColumns (s : Block) : Block :=
  ofMatrix fun r c => invMixByte (stateByte s 0 c) (stateByte s 1 c) (stateByte s 2 c) (stateByte s 3 c) r

/-- One of the rounds Nr-1 down to 1 (45_inverse_pipeline.md R223). -/
def inverseRound (w : Vector Word 60) (s : Block) (rnd : Nat) : Block :=
  invMixColumns (addRoundKey (invSubBytes (invShiftRows s)) w rnd)

/-- `InvCipher`: key addition Nr, the rounds Nr-1 down to 1, and a last round with no InvMixColumns
(45_inverse_pipeline.md R223). -/
def invCipher (w : Vector Word 60) (nr : Nat) (s : Block) : Block :=
  let mid := (List.range' 1 (nr - 1)).reverse.foldl (inverseRound w) (addRoundKey s w nr)
  addRoundKey (invSubBytes (invShiftRows mid)) w 0

/-- DECRYPT: the checks of R257, then the inverse cipher on DATA in place (45_inverse_pipeline.md R225). -/
def execDecrypt (nr : BitVec 4) (s : State) : Host.Outcome State Fault Refusal :=
  match cipherCheck nr s with
  | some e => raiseErr e s
  | none => complete (s.setData (invCipher s.rkram nr.toNat s.data))

/-- INV_SUB_BYTES: one InvSubBytes step on DATA (45_inverse_pipeline.md R226). -/
def execInvSubBytes (s : State) : Host.Outcome State Fault Refusal := complete (s.setData (invSubBytes s.data))

/-- INV_SHIFT_ROWS: one InvShiftRows step on DATA (45_inverse_pipeline.md R227). -/
def execInvShiftRows (s : State) : Host.Outcome State Fault Refusal := complete (s.setData (invShiftRows s.data))

/-- INV_MIX_COLUMNS: one InvMixColumns step on DATA (45_inverse_pipeline.md R228). -/
def execInvMixColumns (s : State) : Host.Outcome State Fault Refusal := complete (s.setData (invMixColumns s.data))

end Sys2Proof.Machine
end

