-- ==== Sys2Proof/Machine/KeySchedule.lean ====
section
/-! DEFINITION. Key expansion and the meaning of EXPAND_KEY (43_key_schedule.md). -/

namespace Sys2Proof.Machine

/-- `RotWord([a0, a1, a2, a3]) = [a1, a2, a3, a0]` (43_key_schedule.md R170). -/
def rotWord (w : Word) : Word := packWord (byteOf w 1) (byteOf w 2) (byteOf w 3) (byteOf w 0)

/-- `SubWord`: SubByte on each of the four bytes (43_key_schedule.md R171). -/
def subWord (w : Word) : Word :=
  packWord (sbox (byteOf w 0)) (sbox (byteOf w 1)) (sbox (byteOf w 2)) (sbox (byteOf w 3))

/-- What is XORed into `w[i-Nk]` to give `w[i]`, from `temp = w[i-1]` (43_key_schedule.md R172). -/
def scheduleTemp (nk i : Nat) (temp : Word) : Word :=
  if i % nk = 0 then subWord (rotWord temp) ^^^ packWord (rcon (i / nk - 1)) 0 0 0
  else if 6 < nk ∧ i % nk = 4 then subWord temp
  else temp

/-- `w[i]` from the words before it, for `i` the number of words so far (43_key_schedule.md R172). -/
def nextWord (nk : Nat) (w : List Word) : Word :=
  w.getD (w.length - nk) 0 ^^^ scheduleTemp nk w.length (w.getD (w.length - 1) 0)

/-- The words so far with `n` more (the loop of 43_key_schedule.md R172). -/
def extendSchedule (nk : Nat) : Nat → List Word → List Word
  | 0, w => w
  | n + 1, w => extendSchedule nk n (w ++ [nextWord nk w])

/-- `KeyExpansion(key, Nk)`: the key's Nk words, then words up to `4*(Nr+1)` in all, where Nr = Nk + 6
(43_key_schedule.md R172, 00_scope.md R8). -/
def keyExpansion (nk : Nat) (keyWords : List Word) : List Word :=
  extendSchedule nk (4 * (nk + 7) - nk) keyWords

/-- The key words EXPAND_KEY reads: KEY0 to KEY(Nk-1), key word i being KEY[i] (20_memory.md R63, 43_key_schedule.md R177). -/
def heldKey (nk : Nat) (s : State) : List Word := s.key.toList.take nk

/-- EXPAND_KEY: InvalidKeyLength unless KEYLEN is 16, 24 or 32, else expand the key into RKRAM and set SWORDS
(43_key_schedule.md R174). -/
def execExpandKey (s : State) : Host.Outcome State Fault Refusal :=
  match keyWords s.keylen with
  | none => raiseErr .invalidKeyLength s
  | some nk => complete (s.setSchedule (keyExpansion nk (heldKey nk s)))

end Sys2Proof.Machine
end

