-- ==== Sys2Proof/Machine/Substitution.lean ====
section
/-! DEFINITION. The meanings of SUB_BYTE, INV_SUB_BYTE and RCON (42_substitution.md). -/

namespace Sys2Proof.Machine

/-- SUB_BYTE: RESULT <- SBOX[A] (42_substitution.md R157). -/
def execSubByte (b : Byte) (s : State) : Host.Outcome State Fault Refusal :=
  complete (s.setResult (sbox b))

/-- INV_SUB_BYTE: RESULT <- INVSBOX[A] (42_substitution.md R158). -/
def execInvSubByte (b : Byte) (s : State) : Host.Outcome State Fault Refusal :=
  complete (s.setResult (invSbox b))

/-- RCON: RESULT <- RCON[N] (42_substitution.md R159). -/
def execRcon (j : BitVec 4) (s : State) : Host.Outcome State Fault Refusal :=
  complete (s.setResult (rcon j.toNat))

end Sys2Proof.Machine
end

