-- ==== Sys2Proof/Machine/Dispatch.lean ====
section
/-! DEFINITION. One arm for each command: the dispatch of 40_command_control.md R113. -/

namespace Sys2Proof.Machine

def exec (i : Instr) (s : State) : Host.Outcome State Fault Refusal :=
  match i with
  | .nop => Sys2Proof.Machine.execNop s
  | .expandKey => Sys2Proof.Machine.execExpandKey s
  | .encrypt nr => Sys2Proof.Machine.execEncrypt nr s
  | .decrypt nr => Sys2Proof.Machine.execDecrypt nr s
  | .subBytes => Sys2Proof.Machine.execSubBytes s
  | .shiftRows => Sys2Proof.Machine.execShiftRows s
  | .mixColumns => Sys2Proof.Machine.execMixColumns s
  | .addRoundKey r => Sys2Proof.Machine.execAddRoundKey r s
  | .invSubBytes => Sys2Proof.Machine.execInvSubBytes s
  | .invShiftRows => Sys2Proof.Machine.execInvShiftRows s
  | .invMixColumns => Sys2Proof.Machine.execInvMixColumns s
  | .gfMul a b => Sys2Proof.Machine.execGfMul a b s
  | .gfTbl t x => Sys2Proof.Machine.execGfTbl t x s
  | .subByte b => Sys2Proof.Machine.execSubByte b s
  | .invSubByte b => Sys2Proof.Machine.execInvSubByte b s
  | .rcon j => Sys2Proof.Machine.execRcon j s

end Sys2Proof.Machine
end

