-- ==== Sys2Proof/Machine/HostPort.lean ====
section
/-! DEFINITION. The register map and the host's reads and writes of it (10_state.md, 20_memory.md). -/

namespace Sys2Proof.Machine

/-- The registers of the map of 10_state.md R20. -/
inductive Reg where
  | id | status | cmd | cfg | result
  | key (k : Fin 8)
  | data (c : Fin 4)
  | rk (i : Fin 60)
  /-- An offset R20 marks reserved: reads 0, ignores writes (10_state.md R38). -/
  | reserved
  deriving DecidableEq, Repr

/-- The register at word index `idx`, byte offset `4 * idx` (10_state.md R20, 20_memory.md R61). -/
def regAt (idx : BitVec 7) : Reg :=
  if idx.toNat = 0 then .id
  else if idx.toNat = 1 then .status
  else if idx.toNat = 2 then .cmd
  else if idx.toNat = 3 then .cfg
  else if idx.toNat = 4 then .result
  else if idx.toNat < 8 then .reserved
  else if h : idx.toNat - 8 < 8 then .key ⟨idx.toNat - 8, h⟩
  else if h : idx.toNat - 16 < 4 then .data ⟨idx.toNat - 16, h⟩
  else if idx.toNat < 64 then .reserved
  else if h : idx.toNat - 64 < 60 then .rk ⟨idx.toNat - 64, h⟩
  else .reserved

/-- The word index of the register at a byte offset of the window: `off = 4 * idx` (20_memory.md R61). An offset that is no
multiple of 4, or that lies at or above 0x200, names no register and is refused. DEDUCED, log entry 12: R67 leaves open
what a bus does with a misaligned access, 93 U5 says "refuse", and R60 ends the space at 0x1FF. -/
def indexOfOffset (off : Nat) : Option (BitVec 7) :=
  if off % 4 = 0 ∧ off < 0x200 then some (BitVec.ofNat 7 (off / 4)) else none

/-- The identification constant: "AES" and version 1 (10_state.md R21). -/
def idWord : Word := 0x41455301#32

/-- The value of a register while the core is idle (10_state.md R20 to R32). -/
def regValue (s : State) : Reg → Word
  | .id => idWord
  | .status => statusWord s
  | .cmd => 0
  | .cfg => cfgWord s
  | .result => zext32 s.result
  | .key k => s.key[k]
  | .data c => s.data[c]
  | .rk i => rkWindow s i
  | .reserved => 0

/-- The registers whose busy reads are draws: DATA, RESULT and RK (20_memory.md R71). -/
def Reg.drawn : Reg → Bool
  | .id => false
  | .status => false
  | .cmd => false
  | .cfg => false
  | .result => true
  | .key _ => false
  | .data _ => true
  | .rk _ => true
  | .reserved => false

/-- `MemRead`: the value returned and the state after. No read has a side effect; only the draw counter moves, and
only on a read that draws (20_memory.md R66, R71, R72). -/
def portRead (idx : BitVec 7) (s : State) : Word × State :=
  if s.busy && (regAt idx).drawn then drawWord idx s else (regValue s (regAt idx), s)

/-- A write to a register of an idle core. Read-only registers and reserved offsets ignore it, CFG keeps its two
fields, CMD accepts the command (20_memory.md R68, R69, 10_state.md R26, R27, 40_command_control.md R110). -/
def regWrite (v : Word) (s : State) : Reg → State
  | .id => s
  | .status => s
  | .cmd => s.accept v
  | .cfg => { s with keylen := cfgKeylen v, blklen := cfgBlklen v }
  | .result => s
  | .key k => { s with key := s.key.set k v }
  | .data c => { s with data := s.data.set c v }
  | .rk _ => s
  | .reserved => s

/-- `MemWrite`: while busy every write, to any offset, has no effect (20_memory.md R66, R70). -/
def portWrite (idx : BitVec 7) (v : Word) (s : State) : State :=
  if s.busy then s else regWrite v s (regAt idx)

/-- One access or pin change of the host on a core that is not in reset. `wait` stays until a read of STATUS returns
BUSY = 0 (30_encoding.md R99). -/
def hostAct (op : HostOp) (rest : List HostOp) (s : State) : State :=
  match op with
  | .read idx => ((portRead idx s).2.recordRead (portRead idx s).1).setHost rest
  | .write idx v => (portWrite idx v s).setHost rest
  | .wait => if s.busy then s else s.setHost rest
  | .setRst true => s.setHost rest
  | .setRst false => (s.holdReset.setRstN false).setHost rest

end Sys2Proof.Machine
end

