-- ==== Sys2Proof/Machine/Control.lean ====
section
/-! DEFINITION. How the core moves: execution of a command word, its completion, the host's turn, and reset. -/

namespace Sys2Proof.Machine

/-- `Execute(cw)`: an illegal word raises IllegalCommand and nothing else; a legal one runs its command
(40_command_control.md R112, R113). -/
def execute (cw : Word) (s : State) : Host.Outcome State Fault Refusal :=
  match Sys2Proof.decode cw with
  | .ok i => exec i s
  | .error _ => raiseErr .illegalCommand s

/-- The core's only step, one indivisible transition: Execute(cw), then PEND <- none (40_command_control.md R111). -/
def completion (cw : Word) (s : State) : Host.Outcome State Fault Refusal :=
  match execute cw s with
  | .next t => .next t.retire
  | .fault r => .fault r
  | .refused r => .refused r

/-- The host's turn: its next access, or nothing (20_memory.md R73; an idle core holds all its state, 60_exceptions.md R267). -/
def hostTurn (s : State) : State :=
  match s.host with
  | [] => s
  | op :: rest => hostAct op rest s

/-- A step while `rst_n` is 0: the core is held at its reset values; the host may only drive the pin, and a register
access has no step (70_reset_and_hazards.md R280 to R282). -/
def resetTurn (s : State) : Host.Outcome State Fault Refusal :=
  match s.host with
  | [] => .next s.holdReset
  | .setRst level :: rest => .next ((s.holdReset.setRstN level).setHost rest)
  | .read _ :: _ => .fault .accessWhileInReset
  | .write _ _ :: _ => .fault .accessWhileInReset
  | .wait :: _ => .fault .accessWhileInReset

/-- One step. In reset, the reset turn. With a command pending whose latency has passed, its completion. Otherwise the
host's turn, which uses up one step of the pending command's latency (40_command_control.md R111, R119). -/
def advance (s : State) : Host.Outcome State Fault Refusal :=
  if s.rstN then
    match s.pend, s.latency with
    | some cw, 0 => completion cw s
    | some _, n + 1 => .next (hostTurn (s.setLatency n))
    | none, _ => .next (hostTurn s)
  else resetTurn s

/-- The state with `cw` accepted and its latency passed, out of reset: the next step is its completion. -/
def State.withCommand (s : State) (cw : Word) : State :=
  { s with rstN := true, pend := some cw, latency := 0 }

end Sys2Proof.Machine
end

