-- ==== Sys2Proof/Machine/Step.lean ====
section
/-! DEFINITION. The step of the machine, and the placing of a command for the next step. -/

namespace Sys2Proof.Machine

/-- One step of the core and its host. -/
def step (s : State) : Host.Outcome State Fault Refusal := advance s

/-- `s` with the command word of `nbits` bits `w` pending and ready, so that the next step runs it. A command word is
taken from the CMD write and not fetched (20_memory.md R76); this stands for that write (log entry 4). -/
def State.withFetchWord (s : State) (nbits w : Nat) : State :=
  s.withCommand (BitVec.ofNat 32 (w % 2 ^ nbits))

end Sys2Proof.Machine
end

