-- ==== Sys2Proof/Machine/Cores.lean ====
section
/-! DEFINITION. Several core instances that share nothing, and their windows on the platform's bus
(60_exceptions.md R268, 20_memory.md R79). -/

namespace Sys2Proof.Machine

/-- A step of instance `k` of N_INST independent cores, the list's length being the parameter N_INST
(00_scope.md R10, 93 U11); the others do not move. DESIGN CHOICE, log entry 19: the free values take no index of the
instance, so two instances in equal states draw the same value and take the same latency; the spec relates the open
values of two instances in no way. -/
def stepAt : Nat → List State → Host.Outcome (List State) Fault Refusal
  | _, [] => .next []
  | 0, s :: rest =>
    match step s with
    | .next t => .next (t :: rest)
    | .fault r => .fault r
    | .refused r => .refused r
  | k + 1, s :: rest =>
    match stepAt k rest with
    | .next ts => .next (s :: ts)
    | .fault r => .fault r
    | .refused r => .refused r

/-- The bus address of a register: its core's base plus its byte offset. BASE is a multiple of 0x200, so it is given by
its quotient `b`, a parameter of the platform (20_memory.md R79, 93 U12). -/
def busAddress (b : Nat) (idx : BitVec 7) : Nat := 0x200 * b + 4 * idx.toNat

/-- The word index that a bus address gives at the port of the core with base `0x200 * b`: none outside its window
(20_memory.md R60, R79), else that of its offset in the window. None for a misaligned address: DEDUCED, log entry 12. -/
def portIndex (b addr : Nat) : Option (BitVec 7) :=
  if addr / 0x200 = b then indexOfOffset (addr % 0x200) else none

end Sys2Proof.Machine
end

