-- ==== Sys2Proof/Machine/HostSyntax.lean ====
section
/-! DEFINITION. The host program notation of the spec and its pseudo-instructions (30_encoding.md R98, R99). A form that
names no register, or writes a string that is not 4k bytes long, is refused: log entries 12 and 20. -/

namespace Sys2Proof.Machine

/-- `rd REG`: `MemRead` at the byte offset of REG (30_encoding.md R99). Refused where the offset names no register
(DEDUCED, log entry 12). -/
def rd (off : Nat) : Option HostOp := (indexOfOffset off).map .read

/-- `wr REG, v`: `MemWrite` at the byte offset of REG (30_encoding.md R99). Refused where the offset names no register
(DEDUCED, log entry 12). -/
def wr (off : Nat) (v : Word) : Option HostOp := (indexOfOffset off).map (.write · v)

/-- `cmd MNEMONIC ops`: `wr CMD, encode(MNEMONIC ops)` (30_encoding.md R99); CMD is word 2 of the window, at 0x008. -/
def cmd (i : Instr) : HostOp := .write 2 (Sys2Proof.encode i)

/-- `run MNEMONIC ops`: `cmd` then `wait` (30_encoding.md R99). -/
def run (i : Instr) : List HostOp := [cmd i, .wait]

/-- `wr4 REG0, h`: the string `h` of 4k bytes, byte 0 first, into k consecutive registers from the byte offset of REG0,
four bytes to a register, the first of them in bits 31:24 (30_encoding.md R99, 20_memory.md R62). Refused where a
register of the k is none (log entry 12) or the string is not 4k bytes long (DEDUCED, log entry 20). -/
def wr4 : Nat → List Byte → Option (List HostOp)
  | _, [] => some []
  | off, b0 :: b1 :: b2 :: b3 :: h =>
    match wr off (packWord b0 b1 b2 b3), wr4 (off + 4) h with
    | some op, some ops => some (op :: ops)
    | _, _ => none
  | _, [_] => none
  | _, [_, _] => none
  | _, [_, _, _] => none

/-- `GF_TBL c, x`: the selector is the index of c in (2, 3, 9, 11, 13, 14); any other c is refused (30_encoding.md R98). -/
def assembleGfTbl (c : Nat) (x : Byte) : Option Instr :=
  match c with
  | 2 => some (.gfTbl 0 x)
  | 3 => some (.gfTbl 1 x)
  | 9 => some (.gfTbl 2 x)
  | 11 => some (.gfTbl 3 x)
  | 13 => some (.gfTbl 4 x)
  | 14 => some (.gfTbl 5 x)
  | _ => none

end Sys2Proof.Machine
end

