-- ==== Sys2Proof/Safety.lean ====
section
/-! DEFINITION. The terms that claims use: invariants, the end of a run and what is observed there, sequences of commands. -/

namespace Sys2Proof.Machine

/-- SWORDS holds one of its legal values (10_state.md R25). -/
abbrev SwordsLegal (s : State) : Prop :=
  s.swords = 0 ∨ s.swords = 44 ∨ s.swords = 52 ∨ s.swords = 60

/-- The core's registers are at the values 10_state.md R41 gives them, and nothing is pending. RKRAM is not named:
R41 gives it no value. -/
structure AtResetValues (s : State) : Prop where
  key : ∀ k : Fin 8, s.key[k] = 0
  data : ∀ c : Fin 4, s.data[c] = 0
  keylen : s.keylen = 0
  blklen : s.blklen = 0
  result : s.result = 0
  err : s.err = .ok
  swords : s.swords = 0
  pend : s.pend = none

/-- What every step keeps: SWORDS is legal, no latency is left over when nothing is pending, and in reset the core is
held at its reset values (10_state.md R25, R34; 70_reset_and_hazards.md R280). -/
structure State.Inv (s : State) : Prop where
  swords_legal : SwordsLegal s
  idle_latency : s.pend = none → s.latency = 0
  held_in_reset : s.rstN = false → AtResetValues s

/-- The held schedule is an expansion of some key: none is held, or the first SWORDS words of RKRAM are
`KeyExpansion(key, Nk)` for a key of Nk words (10_state.md R25, 43_key_schedule.md R176). -/
def HoldsExpandedKey (s : State) : Prop :=
  s.swords = 0 ∨
  ∃ nk keyWords, (nk = 4 ∨ nk = 6 ∨ nk = 8) ∧ keyWords.length = nk ∧ s.swords.toNat = 4 * (nk + 7) ∧
    ∀ i : Fin 60, i.val < s.swords.toNat → (keyExpansion nk keyWords)[i.val]? = some s.rkram[i]

/-- Two states that differ at most in round-key words at and above SWORDS (10_state.md R33). -/
def SameVisible (s t : State) : Prop :=
  t = { s with rkram := t.rkram } ∧ ∀ i : Fin 60, i.val < s.swords.toNat → s.rkram[i] = t.rkram[i]

/-- The same outcome, up to round-key words no read can see. -/
def SameVisibleOutcome : Host.Outcome State Fault Refusal → Host.Outcome State Fault Refusal → Prop
  | .next s, .next t => SameVisible s t
  | .fault a, .fault b => a = b
  | .refused a, .refused b => a = b
  | _, _ => False

/-- A host program has ended: no further access, and the core is idle (70_reset_and_hazards.md R291). -/
abbrev Ended (s : State) : Prop := s.host = [] ∧ s.pend = none

/-- The observable result of a run that has ended: STATUS, CFG, RESULT, KEY0 to KEY7, DATA0 to DATA3, RK0 to RK59
(70_reset_and_hazards.md R291). -/
def observe (s : State) : List Word :=
  [statusWord s, cfgWord s, zext32 s.result] ++ s.key.toList ++ s.data.toList ++ (List.finRange 60).map (rkWindow s)

/-- Commands executed one after another, each to its end. -/
def execAll : List Instr → State → Host.Outcome State Fault Refusal
  | [], s => .next s
  | i :: is, s =>
    match exec i s with
    | .next t => execAll is t
    | .fault r => .fault r
    | .refused r => .refused r

/-- The opcodes and legality masks of 30_encoding.md R92 and R94, apart from the decoder. -/
def opcodeRows : List (Byte × Word) :=
  [(0x00, 0xFFFFFFFF), (0x01, 0xFFFFFFFF), (0x02, 0xFFFFF0FF), (0x03, 0xFFFFF0FF),
   (0x10, 0xFFFFFFFF), (0x11, 0xFFFFFFFF), (0x12, 0xFFFFFFFF), (0x13, 0xFFFFF0FF),
   (0x18, 0xFFFFFFFF), (0x19, 0xFFFFFFFF), (0x1A, 0xFFFFFFFF), (0x20, 0x0000FFFF),
   (0x21, 0xFF00F8FF), (0x22, 0xFF00FFFF), (0x23, 0xFF00FFFF), (0x24, 0xFFFFF0FF)]

/-- The three points that make a command word illegal (30_encoding.md R95), apart from the decoder. -/
abbrev IllegalWord (cw : Word) : Prop :=
  opcodeRows.all (fun row => row.1 != cw.setWidth 8) = true ∨
  opcodeRows.any (fun row => row.1 == cw.setWidth 8 && cw &&& row.2 != row.1.setWidth 32) = true ∨
  (cw.setWidth 8 = 0x21#8 ∧ (cw.extractLsb' 8 3 = 6#3 ∨ cw.extractLsb' 8 3 = 7#3))

/-- The round-step commands that make up ENCRYPT (44_forward_pipeline.md R201). -/
def encryptSteps (nr : BitVec 4) : List Instr :=
  [.addRoundKey 0]
    ++ (List.range' 1 (nr.toNat - 1)).flatMap (fun rnd => [.subBytes, .shiftRows, .mixColumns, .addRoundKey (BitVec.ofNat 4 rnd)])
    ++ [.subBytes, .shiftRows, .addRoundKey nr]

/-- The round-step commands that make up DECRYPT (45_inverse_pipeline.md R229). -/
def decryptSteps (nr : BitVec 4) : List Instr :=
  [.addRoundKey nr]
    ++ (List.range' 1 (nr.toNat - 1)).reverse.flatMap
      (fun rnd => [.invShiftRows, .invSubBytes, .addRoundKey (BitVec.ofNat 4 rnd), .invMixColumns])
    ++ [.invShiftRows, .invSubBytes, .addRoundKey 0]

/-- The product of two polynomials over GF(2), given by their coefficients, before any reduction: the XOR of `a`
shifted by every place where `b` has a 1. -/
def polyMul (a b : BitVec 16) : BitVec 16 :=
  (List.range 16).foldl (fun acc k => if b.getLsbD k then acc ^^^ (a <<< k) else acc) 0

/-- A command is pending, its latency has passed and the core is out of reset: the core step is next. -/
abbrev Ready (s : State) (cw : Word) : Prop := s.rstN = true ∧ s.pend = some cw ∧ s.latency = 0

/-- The pin is not among what the host still does. -/
abbrev NoReset (s : State) : Prop := s.rstN = true ∧ ∀ level, HostOp.setRst level ∉ s.host

end Sys2Proof.Machine
end

