-- ==== Sys2Proof/Certificates/Slice0/Obligations.lean ====
section
/-! DEFINITION. The statements about the machine, each from the rules of spec/ that its docstring names. -/

open Sys2Proof Sys2Proof.Machine

/-! Command words -/

/-- 30_encoding.md R91, R94: no operand bit is lost between a command and its word. -/
def Obligations.DecodeOfEncodeIsTheCommand : Prop :=
  ∀ i : Instr, WellFormed i → decode (encode i) = .ok i

/-- 30_encoding.md R97: a word that decodes is the one word of its command. -/
def Obligations.DecodedWordIsTheEncoding : Prop :=
  ∀ (cw : Word) (i : Instr), decode cw = .ok i → WellFormed i ∧ encode i = cw

/-- 30_encoding.md R98: the command words the spec writes out. -/
def Obligations.WrittenOutWordsDecode : Prop :=
  decode 0x00000A02 = .ok (.encrypt 10) ∧ decode 0x00000E03 = .ok (.decrypt 14) ∧
  decode 0x00000013 = .ok (.addRoundKey 0) ∧ decode 0x83570020 = .ok (.gfMul 0x57 0x83) ∧
  decode 0x00570221 = .ok (.gfTbl 2 0x57) ∧ decode 0x00530022 = .ok (.subByte 0x53) ∧
  decode 0x00000924 = .ok (.rcon 9)

/-- 30_encoding.md R95 and 40_command_control.md R112, over every command word. The model's choice, no rule of the
spec: when a pending command completes, by the latency left over (log entry 3). -/
def Obligations.IllegalWordsAndOnlyTheyRaiseIllegalCommand : Prop :=
  ∀ (s : State) (cw : Word), Ready s cw →
    (IllegalWord cw → step s = .next { s with err := .illegalCommand, pend := none }) ∧
    (¬ IllegalWord cw → ∃ t, step s = .next t ∧ t.err ≠ .illegalCommand)

/-! The core step -/

/-- 40_command_control.md R111, R113: the step of a ready command is `exec` of it, with PEND cleared after it. The
model's choice, no rule of the spec: when a pending command completes, by the latency left over (log entry 3). -/
def Obligations.StepRunsTheDecodedCommand : Prop :=
  ∀ (s : State) (cw : Word) (i : Instr), Ready s cw → decode cw = .ok i →
    step s = match exec i s with
      | .next t => .next { t with pend := none }
      | .fault r => .fault r
      | .refused r => .refused r

/-- The word that `withFetchWord` places is the command the next step runs (the model's choice, log entries 3
and 4). -/
def Obligations.PlacedWordRunsAtTheNextStep : Prop :=
  ∀ (s : State) (w : Nat) (i : Instr), decodeTableWord 32 w = some i →
    step (s.withFetchWord 32 w) = match exec i (s.withFetchWord 32 w) with
      | .next t => .next { t with pend := none }
      | .fault r => .fault r
      | .refused r => .refused r

/-- 40_command_control.md R115, R250: executing a command word never stops the machine. -/
def Obligations.EveryCommandWordCompletes : Prop :=
  ∀ (cw : Word) (s : State), ∃ t, execute cw s = .next t

/-- 70_reset_and_hazards.md R282: a step stops only on a register access in reset, and never refuses. The model's
choice, no rule of the spec: that there is a step, to a next state, where no agent acts, as on an ended core (log entry
8), that an access in reset is a fault of its own name (log entry 7), and that there is a step in reset with no access
to make (log entry 6). -/
def Obligations.StepStopsOnlyOnAccessInReset : Prop :=
  ∀ s : State, (∃ t, step s = .next t) ∨
    (s.rstN = false ∧ step s = .fault .accessWhileInReset ∧
      ∃ op rest, s.host = op :: rest ∧ ∀ level, op ≠ .setRst level)

/-- 40_command_control.md R116, R118, R119: with no reset, a pending command completes after its finite latency
whatever the host does meanwhile, and its effect is that of the registers as they stood when it was pending. The
model's choice, no rule of the spec: the latency, of which each step uses up one (log entry 3), and that the accesses
to make are a list, of which a step takes the first (log entry 4). -/
def Obligations.PendingCommandCompletesFromHeldRegisters : Prop :=
  ∀ (s : State) (cw : Word), NoReset s → s.pend = some cw →
    ∃ t u, Host.Core.run Sys2Proof.core (s.latency + 1) s = .next t ∧ execute cw s = .next u ∧
      t.pend = none ∧ t.key = u.key ∧ t.data = u.data ∧ t.keylen = u.keylen ∧ t.blklen = u.blklen ∧
      t.result = u.result ∧ t.err = u.err ∧ t.swords = u.swords ∧ t.rkram = u.rkram

/-- 60_exceptions.md R267, 70_reset_and_hazards.md R291: a core whose host program has ended holds all its state. That there
is a step at all, and that it answers the same state, is the model's choice (log entry 8): the spec gives no agent a step
there. -/
def Obligations.IdleCoreHoldsAllState : Prop :=
  ∀ s : State, s.rstN = true → Ended s → step s = .next s

/-! The commands -/

/-- 40_command_control.md R117. -/
def Obligations.NopWritesOnlyErr : Prop :=
  (∀ s : State, exec .nop s = .next { s with err := .ok }) ∧
  ∀ cw : Word, cw.setWidth 8 = 0x00#8 →
    (cw = 0 → decode cw = .ok .nop) ∧
    (cw ≠ 0 → ∀ s : State, execute cw s = .next { s with err := .illegalCommand })

/-- 41_gf_arith.md R130: RESULT is the product of the two polynomials modulo x^8+x^4+x^3+x+1 (0x11B): it differs from
the full product by a multiple of 0x11B. -/
def Obligations.GfMulIsPolynomialProductModulo : Prop :=
  ∀ (a b : Byte) (s : State), ∃ p q : Byte,
    exec (.gfMul a b) s = .next { s with result := p, err := .ok } ∧
    polyMul (a.setWidth 16) (b.setWidth 16) = polyMul (q.setWidth 16) 0x11B ^^^ p.setWidth 16

/-- 41_gf_arith.md R132: the field laws. -/
def Obligations.GfMulFieldLaws : Prop :=
  ∀ a b c : Byte,
    gfMul a 1 = a ∧ gfMul a 0 = 0 ∧ gfMul a b = gfMul b a ∧ mul2 a = gfMul a 2 ∧
    gfMul (gfMul a b) c = gfMul a (gfMul b c) ∧ gfMul a (b ^^^ c) = gfMul a b ^^^ gfMul a c ∧
    (a ≠ 0 → ∃ x : Byte, gfMul a x = 1 ∧ ∀ y : Byte, gfMul a y = 1 → y = x) ∧
    (gfMul a b = 0 ↔ a = 0 ∨ b = 0)

/-- 41_gf_arith.md R134, R136: GF_TBL reads the table of the constant its selector names, in both orders of the product. -/
def Obligations.GfTblAgreesWithGfMul : Prop :=
  ∀ (t : Fin 6) (x : Byte) (s : State),
    exec (.gfTbl (BitVec.ofNat 3 t.val) x) s =
      .next { s with result := gfMul x (#v[2#8, 3#8, 9#8, 11#8, 13#8, 14#8][t]), err := .ok } ∧
    gfMul x (#v[2#8, 3#8, 9#8, 11#8, 13#8, 14#8][t]) = gfMul (#v[2#8, 3#8, 9#8, 11#8, 13#8, 14#8][t]) x

/-- 41_gf_arith.md R136: the selectors 6 and 7 are illegal, and write only ERR. The model's choice, no rule of the
spec: what exec of a term that no legal word gives does (log entry 15). -/
def Obligations.GfTblReservedSelectorsAreIllegal : Prop :=
  ∀ (t : BitVec 3) (x : Byte) (s : State), t = 6 ∨ t = 7 →
    exec (.gfTbl t x) s = .next { s with err := .illegalCommand } ∧
    execute (encode (.gfTbl t x)) s = .next { s with err := .illegalCommand }

/-- 30_encoding.md R98: GF_TBL written with its constant multiplies by that constant, and any other constant is refused. -/
def Obligations.GfTblByConstantMultipliesByIt : Prop :=
  ∀ (c : Nat) (x : Byte),
    (c ∈ [2, 3, 9, 11, 13, 14] → ∃ i, assembleGfTbl c x = some i ∧ decode (encode i) = .ok i ∧
      ∀ s : State, exec i s = .next { s with result := gfMul (BitVec.ofNat 8 c) x, err := .ok }) ∧
    (c ∉ [2, 3, 9, 11, 13, 14] → assembleGfTbl c x = none)

/-- 42_substitution.md R152: SUB_BYTE gives the affine image of the field inverse, with 0 for the inverse of 0. -/
def Obligations.SubByteIsAffineImageOfInverse : Prop :=
  ∀ (a : Byte) (s : State), ∃ b : Byte,
    ((a = 0 ∧ b = 0) ∨ (a ≠ 0 ∧ gfMul a b = 1 ∧ ∀ x : Byte, gfMul a x = 1 → x = b)) ∧
    exec (.subByte a) s =
      .next { s with
        result := b ^^^ b.rotateLeft 1 ^^^ b.rotateLeft 2 ^^^ b.rotateLeft 3 ^^^ b.rotateLeft 4 ^^^ 0x63
        err := .ok }

/-- 42_substitution.md R155: SUB_BYTE and INV_SUB_BYTE undo each other; no fixed point; one two-cycle. -/
def Obligations.SubByteAndInvSubByteAreMutualInverses : Prop :=
  ∀ (b : Byte) (s : State), ∃ x y : Byte,
    exec (.subByte b) s = .next { s with result := x, err := .ok } ∧
    exec (.invSubByte x) s = .next { s with result := b, err := .ok } ∧
    exec (.invSubByte b) s = .next { s with result := y, err := .ok } ∧
    exec (.subByte y) s = .next { s with result := b, err := .ok } ∧
    x ≠ b ∧ (x = y ↔ b = 0x73 ∨ b = 0x8F) ∧ (b = 0x73 → x = 0x8F) ∧ (b = 0x8F → x = 0x73)

/-- 42_substitution.md R156, R159: RCON 0 is 0x01 and each further constant is the double of the one before. -/
def Obligations.RconDoublesFromOne : Prop :=
  ∃ v : BitVec 4 → Byte,
    (∀ (j : BitVec 4) (s : State), exec (.rcon j) s = .next { s with result := v j, err := .ok }) ∧
    v 0 = 0x01 ∧ ∀ j : BitVec 4, j ≠ 15 → v (j + 1) = gfMul (v j) 0x02

/-- 43_key_schedule.md R170, R171, R172, R174: EXPAND_KEY writes the schedule's recurrence into RKRAM, leaves the words
above it, and sets SWORDS. -/
def Obligations.ExpandKeyWritesTheSchedule : Prop :=
  ∀ (s : State) (nk : Nat),
    (s.keylen = 16 ∧ nk = 4) ∨ (s.keylen = 24 ∧ nk = 6) ∨ (s.keylen = 32 ∧ nk = 8) →
    ∃ ram : Vector Word 60,
      exec .expandKey s = .next { s with rkram := ram, swords := BitVec.ofNat 6 (4 * (nk + 7)), err := .ok } ∧
      (∀ (i : Fin 60) (k : Fin 8), i.val = k.val → k.val < nk → ram[i] = s.key[k]) ∧
      (∀ i p q : Fin 60, nk ≤ i.val → i.val < 4 * (nk + 7) → p.val = i.val - 1 → q.val = i.val - nk →
        ∀ j : Fin 4, byteOf ram[i] j = byteOf ram[q] j ^^^
          (if i.val % nk = 0 then sbox (byteOf ram[p] (j + 1)) ^^^ (if j = 0 then rcon (i.val / nk - 1) else 0)
           else if nk = 8 ∧ i.val % nk = 4 then sbox (byteOf ram[p] j)
           else byteOf ram[p] j)) ∧
      (∀ i : Fin 60, 4 * (nk + 7) ≤ i.val → ram[i] = s.rkram[i])

/-- 60_exceptions.md R252, 43_key_schedule.md R174: any other declared key length fails and keeps the held schedule. -/
def Obligations.ExpandKeyRefusesOtherKeyLengths : Prop :=
  ∀ s : State, s.keylen ≠ 16 → s.keylen ≠ 24 → s.keylen ≠ 32 →
    exec .expandKey s = .next { s with err := .invalidKeyLength }

/-- 43_key_schedule.md R177: the key registers at and above the declared length do not affect EXPAND_KEY. -/
def Obligations.ExpandKeyReadsOnlyTheDeclaredKey : Prop :=
  ∀ (s : State) (other : Vector Word 8),
    (∀ k : Fin 8, 4 * k.val < s.keylen.toNat → s.key[k] = other[k]) →
    ∃ t, exec .expandKey s = .next t ∧ exec .expandKey { s with key := other } = .next { t with key := other }

/-- 44_forward_pipeline.md R190, R197. -/
def Obligations.SubBytesStepOnData : Prop :=
  ∀ s : State, ∃ d : Block, exec .subBytes s = .next { s with data := d, err := .ok } ∧
    ∀ r c : Fin 4, stateByte d r c = sbox (stateByte s.data r c)

/-- 44_forward_pipeline.md R191, R198, with the block-byte form. -/
def Obligations.ShiftRowsStepOnData : Prop :=
  ∀ s : State, ∃ d : Block, exec .shiftRows s = .next { s with data := d, err := .ok } ∧
    (∀ r c c' : Fin 4, c'.val = (c.val + r.val) % 4 → stateByte d r c = stateByte s.data r c') ∧
    (∀ n m : Fin 16, m.val = (n.val + 4 * (n.val % 4)) % 16 → blockByte d n = blockByte s.data m)

/-- 44_forward_pipeline.md R192, R199: the matrix of MixColumns, in products of the field. -/
def Obligations.MixColumnsStepOnData : Prop :=
  ∀ s : State, ∃ d : Block, exec .mixColumns s = .next { s with data := d, err := .ok } ∧
    ∀ (c : Fin 4) (c0 c1 c2 c3 : Byte),
      stateByte s.data 0 c = c0 → stateByte s.data 1 c = c1 → stateByte s.data 2 c = c2 → stateByte s.data 3 c = c3 →
      stateByte d 0 c = gfMul 2 c0 ^^^ gfMul 3 c1 ^^^ c2 ^^^ c3 ∧
      stateByte d 1 c = c0 ^^^ gfMul 2 c1 ^^^ gfMul 3 c2 ^^^ c3 ∧
      stateByte d 2 c = c0 ^^^ c1 ^^^ gfMul 2 c2 ^^^ gfMul 3 c3 ∧
      stateByte d 3 c = gfMul 3 c0 ^^^ c1 ^^^ c2 ^^^ gfMul 2 c3

/-- 44_forward_pipeline.md R193, R200: round key r is XORed in, word by word and byte by byte. -/
def Obligations.AddRoundKeyStepOnData : Prop :=
  ∀ (rnd : BitVec 4) (s : State), 4 * rnd.toNat + 3 < s.swords.toNat →
    ∃ d : Block, exec (.addRoundKey rnd) s = .next { s with data := d, err := .ok } ∧
      ∀ (c : Fin 4) (i : Fin 60), i.val = 4 * rnd.toNat + c.val →
        d[c] = s.data[c] ^^^ s.rkram[i] ∧
        ∀ k : Fin 4, stateByte d k c = stateByte s.data k c ^^^ byteOf s.rkram[i] k

/-- 45_inverse_pipeline.md R220, R227, with the block-byte form and the inverse law. -/
def Obligations.InvShiftRowsStepOnData : Prop :=
  ∀ s : State, (∃ d : Block, exec .invShiftRows s = .next { s with data := d, err := .ok } ∧
    (∀ r c c' : Fin 4, (c'.val + r.val) % 4 = c.val → stateByte d r c = stateByte s.data r c') ∧
    (∀ n m : Fin 16, (m.val + 4 * (n.val % 4)) % 16 = n.val → blockByte d n = blockByte s.data m)) ∧
    execAll [.shiftRows, .invShiftRows] s = .next { s with err := .ok }

/-- 45_inverse_pipeline.md R221, R226, with the inverse law. -/
def Obligations.InvSubBytesStepOnData : Prop :=
  ∀ s : State, (∃ d : Block, exec .invSubBytes s = .next { s with data := d, err := .ok } ∧
    ∀ r c : Fin 4, stateByte d r c = invSbox (stateByte s.data r c)) ∧
    execAll [.subBytes, .invSubBytes] s = .next { s with err := .ok }

/-- 45_inverse_pipeline.md R222, R228: the inverse matrix, in products of the field, and the inverse law. -/
def Obligations.InvMixColumnsStepOnData : Prop :=
  ∀ s : State, (∃ d : Block, exec .invMixColumns s = .next { s with data := d, err := .ok } ∧
    ∀ (c : Fin 4) (c0 c1 c2 c3 : Byte),
      stateByte s.data 0 c = c0 → stateByte s.data 1 c = c1 → stateByte s.data 2 c = c2 → stateByte s.data 3 c = c3 →
      stateByte d 0 c = gfMul 14 c0 ^^^ gfMul 11 c1 ^^^ gfMul 13 c2 ^^^ gfMul 9 c3 ∧
      stateByte d 1 c = gfMul 9 c0 ^^^ gfMul 14 c1 ^^^ gfMul 11 c2 ^^^ gfMul 13 c3 ∧
      stateByte d 2 c = gfMul 13 c0 ^^^ gfMul 9 c1 ^^^ gfMul 14 c2 ^^^ gfMul 11 c3 ∧
      stateByte d 3 c = gfMul 11 c0 ^^^ gfMul 13 c1 ^^^ gfMul 9 c2 ^^^ gfMul 14 c3) ∧
    execAll [.mixColumns, .invMixColumns] s = .next { s with err := .ok }

/-- 44_forward_pipeline.md R194, R196, R201: ENCRYPT completes where its checks pass, and does what its round-step
commands do one after another. -/
def Obligations.EncryptIsItsRoundSteps : Prop :=
  ∀ (nr : BitVec 4) (s : State), s.blklen = 16 → s.swords.toNat = 4 * (nr.toNat + 1) →
    ∃ d : Block, exec (.encrypt nr) s = .next { s with data := d, err := .ok } ∧
      execAll (encryptSteps nr) s = .next { s with data := d, err := .ok }

/-- 45_inverse_pipeline.md R223, R225, R229: DECRYPT completes where its checks pass, and does what its round-step
commands do one after another. -/
def Obligations.DecryptIsItsRoundSteps : Prop :=
  ∀ (nr : BitVec 4) (s : State), s.blklen = 16 → s.swords.toNat = 4 * (nr.toNat + 1) →
    ∃ d : Block, exec (.decrypt nr) s = .next { s with data := d, err := .ok } ∧
      execAll (decryptSteps nr) s = .next { s with data := d, err := .ok }

/-- 45_inverse_pipeline.md R224: ENCRYPT then DECRYPT, and DECRYPT then ENCRYPT, give DATA back. -/
def Obligations.EncryptAndDecryptAreMutualInverses : Prop :=
  ∀ (nr : BitVec 4) (s : State), s.blklen = 16 → s.swords.toNat = 4 * (nr.toNat + 1) →
    execAll [.encrypt nr, .decrypt nr] s = .next { s with err := .ok } ∧
    execAll [.decrypt nr, .encrypt nr] s = .next { s with err := .ok }

/-- 60_exceptions.md R253, R257: a declared block length other than 16 is reported first, whatever schedule is held. -/
def Obligations.BlockLengthIsCheckedFirst : Prop :=
  ∀ (nr : BitVec 4) (s : State), s.blklen ≠ 16 →
    exec (.encrypt nr) s = .next { s with err := .invalidBlockLength } ∧
    exec (.decrypt nr) s = .next { s with err := .invalidBlockLength }

/-- 60_exceptions.md R254: ScheduleMismatch exactly where the held schedule does not match. -/
def Obligations.ScheduleMismatchExactlyWhereNotHeld : Prop :=
  ∀ (nr : BitVec 4) (s : State),
    (s.blklen = 16 →
      (s.swords.toNat ≠ 4 * (nr.toNat + 1) ↔ exec (.encrypt nr) s = .next { s with err := .scheduleMismatch }) ∧
      (s.swords.toNat ≠ 4 * (nr.toNat + 1) ↔ exec (.decrypt nr) s = .next { s with err := .scheduleMismatch })) ∧
    (s.swords.toNat ≤ 4 * nr.toNat + 3 ↔ exec (.addRoundKey nr) s = .next { s with err := .scheduleMismatch })

/-! Whole-machine rules about commands -/

/-- 40_command_control.md R115: a command that fails writes ERR and nothing else. -/
def Obligations.FailingCommandWritesOnlyErr : Prop :=
  ∀ (cw : Word) (s t : State), execute cw s = .next t → t.err ≠ .ok → t = { s with err := t.err }

/-- 10_state.md R36, R28, R25, R29: which commands may write which register. -/
def Obligations.CommandsWriteOnlyTheirRegisters : Prop :=
  ∀ (i : Instr) (s t : State), exec i s = .next t →
    t = { s with data := t.data, result := t.result, err := t.err, swords := t.swords, rkram := t.rkram } ∧
    (t.rkram ≠ s.rkram ∨ t.swords ≠ s.swords → i = .expandKey) ∧
    (t.result ≠ s.result →
      (∃ a b, i = .gfMul a b) ∨ (∃ c x, i = .gfTbl c x) ∨ (∃ b, i = .subByte b) ∨ (∃ b, i = .invSubByte b) ∨ ∃ j, i = .rcon j) ∧
    (t.data ≠ s.data →
      (∃ n, i = .encrypt n) ∨ (∃ n, i = .decrypt n) ∨ (∃ n, i = .addRoundKey n) ∨ i = .subBytes ∨ i = .shiftRows ∨
      i = .mixColumns ∨ i = .invSubBytes ∨ i = .invShiftRows ∨ i = .invMixColumns)

/-- 60_exceptions.md R251: the cause of each error code, over every command word. -/
def Obligations.ErrorCodesHaveExactlyTheirCauses : Prop :=
  ∀ (cw : Word) (s t : State), execute cw s = .next t →
    (t.err.code = 4 ↔ IllegalWord cw) ∧
    (t.err.code = 1 ↔ decode cw = .ok .expandKey ∧ s.keylen ≠ 16 ∧ s.keylen ≠ 24 ∧ s.keylen ≠ 32) ∧
    (t.err.code = 2 ↔ (∃ n, decode cw = .ok (.encrypt n) ∨ decode cw = .ok (.decrypt n)) ∧ s.blklen ≠ 16) ∧
    (t.err.code = 3 ↔
      (∃ n, (decode cw = .ok (.encrypt n) ∨ decode cw = .ok (.decrypt n)) ∧ s.blklen = 16 ∧
        s.swords.toNat ≠ 4 * (n.toNat + 1)) ∨
      ∃ n, decode cw = .ok (.addRoundKey n) ∧ s.swords.toNat ≤ 4 * n.toNat + 3) ∧
    t.err.code.toNat ≤ 4

/-! The host port -/

/-- 40_command_control.md R110: acceptance of a CMD write, and its drop while busy. The draw counter's advance by one and the
latency are the model's choice (log entries 2 and 3), and the host's list is the model's own field (log entry 4). -/
def Obligations.CmdWriteIsAcceptedOnlyWhileIdle : Prop :=
  ∀ (s : State) (v : Word) (rest : List HostOp), s.rstN = true → s.host = .write 2 v :: rest →
    (s.pend = none → ∃ n, step s = .next { s with pend := some v, latency := n, draws := s.draws + 1, host := rest }) ∧
    (∀ cw n, s.pend = some cw → s.latency = n + 1 → step s = .next { s with latency := n, host := rest })

/-- 20_memory.md R70: while busy a write to any offset has no effect; only the host's list and the latency left move.
The model's choice, no rule of the spec: that a step of a busy core uses up one of the latency (log entry 3), and that
the accesses to make are a list, of which a step takes the first (log entry 4). -/
def Obligations.WritesWhileBusyAreDropped : Prop :=
  ∀ (s : State) (idx : BitVec 7) (v cw : Word) (n : Nat) (rest : List HostOp),
    s.rstN = true → s.pend = some cw → s.latency = n + 1 → s.host = .write idx v :: rest →
    step s = .next { s with latency := n, host := rest }

/-- 10_state.md R20, R27, R29, R31: what a write to CFG, KEY or DATA of an idle core stores. The model's choice, no
rule of the spec: that the accesses to make are a list, of which a step takes the first (log entry 4). -/
def Obligations.IdleWritesStoreIntoCfgKeyData : Prop :=
  ∀ (s : State) (idx : BitVec 7) (v : Word) (rest : List HostOp),
    s.rstN = true → s.pend = none → s.host = .write idx v :: rest →
    (4 * idx.toNat = 0x00C →
      step s = .next { s with keylen := v.extractLsb' 0 6, blklen := v.extractLsb' 8 5, host := rest }) ∧
    (∀ k : Fin 8, 4 * idx.toNat = 0x020 + 4 * k.val → step s = .next { s with key := s.key.set k v, host := rest }) ∧
    (∀ c : Fin 4, 4 * idx.toNat = 0x040 + 4 * c.val → step s = .next { s with data := s.data.set c v, host := rest })

/-- 20_memory.md R69: writes to ID, STATUS, RESULT and RK are ignored; a write to CFG keeps its two fields only. The
model's choice, no rule of the spec: that the accesses to make are a list, of which a step takes the first (log entry
4). -/
def Obligations.WritesToReadOnlyRegistersAreIgnored : Prop :=
  ∀ (s : State) (idx : BitVec 7) (v : Word) (rest : List HostOp),
    s.rstN = true → s.pend = none → s.host = .write idx v :: rest →
    (4 * idx.toNat = 0x000 ∨ 4 * idx.toNat = 0x004 ∨ 4 * idx.toNat = 0x010 ∨
      (∃ i : Fin 60, 4 * idx.toNat = 0x100 + 4 * i.val) → step s = .next { s with host := rest }) ∧
    (4 * idx.toNat = 0x00C → ∃ t, step s = .next t ∧ t = { s with keylen := t.keylen, blklen := t.blklen, host := rest } ∧
      regValue t .cfg = v &&& 0x00001F3F)

/-- 20_memory.md R68: reserved offsets read 0 and ignore writes, busy or idle. The model's choice, no rule of the
spec: the latency (log entry 3), that the accesses to make are a list, of which a step takes the first (log entry 4),
and that the values read are appended to a list (log entry 5). -/
def Obligations.ReservedOffsetsReadZeroIgnoreWrites : Prop :=
  ∀ (s : State) (idx : BitVec 7) (v : Word) (rest : List HostOp), s.rstN = true → s.pend = none ∨ 0 < s.latency →
    (0x014 ≤ 4 * idx.toNat ∧ 4 * idx.toNat ≤ 0x01C) ∨ (0x050 ≤ 4 * idx.toNat ∧ 4 * idx.toNat ≤ 0x0FC) ∨
      0x1F0 ≤ 4 * idx.toNat →
    (s.host = .read idx :: rest →
      ∃ n, step s = .next { s with latency := n, reads := s.reads ++ [0], host := rest }) ∧
    (s.host = .write idx v :: rest → ∃ n, step s = .next { s with latency := n, host := rest })

/-- 20_memory.md R66, R72 and the register map of 10_state.md R20: what a read of an idle core returns, and that
nothing else changes. The model's choice, no rule of the spec: that the accesses to make are a list, of which a step
takes the first (log entry 4), and that the values read are appended to a list (log entry 5). -/
def Obligations.IdleReadsReturnTheRegisters : Prop :=
  ∀ (s : State) (idx : BitVec 7) (rest : List HostOp), s.rstN = true → s.pend = none → s.host = .read idx :: rest →
    ∃ v : Word, step s = .next { s with reads := s.reads ++ [v], host := rest } ∧
      (4 * idx.toNat = 0x000 → v = 0x41455301) ∧
      (4 * idx.toNat = 0x004 → v.extractLsb' 0 4 = 0#4 ∧ v.extractLsb' 4 4 = s.err.code ∧
        v.extractLsb' 8 6 = s.swords ∧ v.extractLsb' 14 18 = 0#18) ∧
      (4 * idx.toNat = 0x008 → v = 0) ∧
      (4 * idx.toNat = 0x00C → v.extractLsb' 0 6 = s.keylen ∧ v.extractLsb' 6 2 = 0#2 ∧
        v.extractLsb' 8 5 = s.blklen ∧ v.extractLsb' 13 19 = 0#19) ∧
      (4 * idx.toNat = 0x010 → v.extractLsb' 0 8 = s.result ∧ v.extractLsb' 8 24 = 0#24) ∧
      (∀ k : Fin 8, 4 * idx.toNat = 0x020 + 4 * k.val → v = s.key[k]) ∧
      (∀ c : Fin 4, 4 * idx.toNat = 0x040 + 4 * c.val → v = s.data[c]) ∧
      (∀ i : Fin 60, 4 * idx.toNat = 0x100 + 4 * i.val → v = if i.val < s.swords.toNat then s.rkram[i] else 0)

/-- 20_memory.md R71: what a read returns while a command is pending. Of DATA, RESULT and RK it says only that the
value is the next draw, which no statement can know. The counter advances by one at a read that draws and at no other.
The model's choice, no rule of the spec: the counter that numbers the draws (log entry 2), that a busy read uses up
one of the latency (log entry 3), that the accesses to make are a list, of which a step takes the first (log entry 4),
and that the values read are appended to a list (log entry 5). -/
def Obligations.BusyReads : Prop :=
  ∀ (s : State) (idx : BitVec 7) (cw : Word) (n : Nat) (rest : List HostOp),
    s.rstN = true → s.pend = some cw → s.latency = n + 1 → s.host = .read idx :: rest →
    ∃ (v : Word) (d : Nat),
      step s = .next { s with latency := n, draws := d, reads := s.reads ++ [v], host := rest } ∧
      (4 * idx.toNat = 0x000 → v = 0x41455301) ∧
      (4 * idx.toNat = 0x004 → v.extractLsb' 0 4 = 1#4 ∧ v.extractLsb' 4 4 = s.err.code ∧
        v.extractLsb' 8 6 = s.swords ∧ v.extractLsb' 14 18 = 0#18) ∧
      (4 * idx.toNat = 0x008 → v = 0) ∧
      (4 * idx.toNat = 0x00C → v.extractLsb' 0 6 = s.keylen ∧ v.extractLsb' 6 2 = 0#2 ∧
        v.extractLsb' 8 5 = s.blklen ∧ v.extractLsb' 13 19 = 0#19) ∧
      (∀ k : Fin 8, 4 * idx.toNat = 0x020 + 4 * k.val → v = s.key[k]) ∧
      (4 * idx.toNat = 0x010 ∨ (∃ c : Fin 4, 4 * idx.toNat = 0x040 + 4 * c.val) ∨
        (∃ i : Fin 60, 4 * idx.toNat = 0x100 + 4 * i.val) →
        d = s.draws + 1 ∧ ∃ seen : List Word, v = Config.draw s.draws seen) ∧
      (4 * idx.toNat ≠ 0x010 → (∀ c : Fin 4, 4 * idx.toNat ≠ 0x040 + 4 * c.val) →
        (∀ i : Fin 60, 4 * idx.toNat ≠ 0x100 + 4 * i.val) → d = s.draws)

/-- 30_encoding.md R99: `wait` is left exactly when STATUS reads BUSY = 0. The model's choice, no rule of the spec:
that a poll of a busy core uses up one of the latency (log entry 3), that the reads of a poll are not recorded in the
list of values read (log entry 5), and that the accesses to make are a list, of which a step takes the first (log
entry 4). -/
def Obligations.WaitEndsWhenNotBusy : Prop :=
  ∀ (s : State) (rest : List HostOp), s.rstN = true → s.host = .wait :: rest →
    (s.pend = none → step s = .next { s with host := rest }) ∧
    (∀ cw n, s.pend = some cw → s.latency = n + 1 → step s = .next { s with latency := n })

/-! Reset -/

/-- 10_state.md R41, R20: what the host reads first from a core right after reset, at every offset. The model's
choice, no rule of the spec: that the accesses to make are a list, of which a step takes the first (log entry 4), that
the values read are appended to a list (log entry 5), and that the pin is 1 at State.reset (log entry 6). -/
def Obligations.FirstReadAfterReset : Prop :=
  State.reset.pend = none ∧ ∀ (idx : BitVec 7) (rest : List HostOp),
    step { State.reset with host := .read idx :: rest } =
      .next { State.reset with reads := [if 4 * idx.toNat = 0x000 then 0x41455301 else 0], host := rest }

/-- 70_reset_and_hazards.md R281: reset while a command is pending. The model's choice, no rule of the spec: that the
step which drives rst_n low resets the core and each step while it is low holds it reset (log entry 6), and that the
accesses to make are a list, of which a step takes the first (log entry 4). -/
def Obligations.ResetAbandonsThePendingCommand : Prop :=
  ∀ (s : State) (cw : Word) (n : Nat) (rest : List HostOp),
    s.rstN = true → s.pend = some cw → s.latency = n + 1 → s.host = .setRst false :: rest →
    ∃ t, step s = .next t ∧ t.rstN = false ∧ t.host = rest ∧ AtResetValues t

/-- 70_reset_and_hazards.md R280: reset of an idle core, the hold while rst_n is 0, and the release. The model's
choice, no rule of the spec: that the step which drives rst_n low resets the core and each step while it is low holds
it reset (log entry 6), and that the accesses to make are a list, of which a step takes the first (log entry 4). -/
def Obligations.ResetHoldsAndReleases : Prop :=
  ∀ s : State,
    (s.rstN = true → s.pend = none → ∀ rest, s.host = .setRst false :: rest →
      ∃ t, step s = .next t ∧ t.rstN = false ∧ AtResetValues t) ∧
    (s.rstN = false → s.host = [] → ∃ t, step s = .next t ∧ t.rstN = false ∧ AtResetValues t) ∧
    (s.rstN = false → ∀ level rest, s.host = .setRst level :: rest →
      ∃ t, step s = .next t ∧ t.rstN = level ∧ t.host = rest ∧ AtResetValues t)

/-- 70_reset_and_hazards.md R282: a register access while rst_n is 0 has no step. The model's choice, no rule of the
spec: that the stuck reading is a fault of its own name (log entry 7), and that the accesses to make are a list, of
which a step takes the first (log entry 4). -/
def Obligations.AccessInResetIsStuck : Prop :=
  ∀ (s : State) (op : HostOp) (rest : List HostOp), s.rstN = false → s.host = op :: rest →
    (∀ level, op ≠ .setRst level) → step s = .fault .accessWhileInReset

/-! Invariants and whole-machine rules about steps -/

/-- 10_state.md R41, R25: the invariant holds right after reset. Its clause on the latency left over is about the model's
own field, whose reset value is the model's choice (log entry 3). -/
def Obligations.InvHoldsAtReset : Prop := State.reset.Inv

/-- 10_state.md R25, R34, 70_reset_and_hazards.md R280: every step keeps the invariant. The model's choice, no rule of
the spec: the latency (log entry 3), and that the step which drives rst_n low resets the core and each step while it
is low holds it reset (log entry 6). -/
def Obligations.EveryStepKeepsInv : Prop :=
  ∀ s t : State, s.Inv → step s = .next t → t.Inv

/-- 10_state.md R25, 43_key_schedule.md R176: every step keeps the held schedule an expansion of some key; so it is
from reset on. The model's choice, no rule of the spec: when a pending command completes, by the latency left over
(log entry 3), and that the step which drives rst_n low resets the core and each step while it is low holds it reset
(log entry 6). -/
def Obligations.HeldScheduleStaysAnExpansion : Prop :=
  HoldsExpandedKey State.reset ∧ ∀ s t : State, HoldsExpandedKey s → step s = .next t → HoldsExpandedKey t

/-- 43_key_schedule.md R176, 70_reset_and_hazards.md R286: only a successful EXPAND_KEY and reset change RKRAM or
SWORDS. The model's choice, no rule of the spec: when a pending command completes, by the latency left over (log entry
3), and that the step which drives rst_n low resets the core and each step while it is low holds it reset (log entry
6). -/
def Obligations.OnlyExpandKeyAndResetChangeTheSchedule : Prop :=
  ∀ s t : State, step s = .next t →
    (t.rkram = s.rkram ∧ t.swords = s.swords) ∨ (Ready s 0x00000001 ∧ t.err = .ok) ∨ s.rstN = false ∨ t.rstN = false

/-- 10_state.md R23: the only events that change BUSY. The model's choice, no rule of the spec: when a pending command
completes, by the latency left over (log entry 3), that the accesses to make are a list, of which a step takes the
first (log entry 4), and that the step which drives rst_n low resets the core and each step while it is low holds it
reset (log entry 6). -/
def Obligations.BusyChangesOnlyByAcceptanceCompletionReset : Prop :=
  ∀ s t : State, step s = .next t →
    (statusWord s).getLsbD 0 = s.pend.isSome ∧
    (s.pend = none → t.pend ≠ none → ∃ v rest, s.host = .write 2 v :: rest ∧ t.pend = some v) ∧
    (∀ cw, s.pend = some cw → t.pend = some cw ∨ (t.pend = none ∧ (Ready s cw ∨ s.rstN = false ∨ t.rstN = false))) ∧
    (∀ cw, Ready s cw → t.pend = none)

/-- 10_state.md R24, 40_command_control.md R114, 60_exceptions.md R258: only a completion and reset write ERR. The
model's choice, no rule of the spec: when a pending command completes, by the latency left over (log entry 3), and
that the step which drives rst_n low resets the core and each step while it is low holds it reset (log entry 6). -/
def Obligations.OnlyCompletionAndResetWriteErr : Prop :=
  ∀ s t : State, step s = .next t → t.err ≠ s.err → (∃ cw, Ready s cw) ∨ s.rstN = false ∨ t.rstN = false

/-- 10_state.md R32, R33: round-key words at and above SWORDS influence nothing a host can see, at any step. The model's
choice, no rule of the spec: that neither the value of a busy draw nor the latency of a command depends on such words
(log entry 18). -/
def Obligations.HiddenRoundKeyWordsInfluenceNothing : Prop :=
  ∀ s t : State, SameVisible s t → SameVisibleOutcome (step s) (step t)

/-- 70_reset_and_hazards.md R291: the observable result says nothing about RKRAM words at or above SWORDS. -/
def Obligations.ObservationHidesRoundKeyWords : Prop :=
  ∀ s t : State, SameVisible s t → observe s = observe t

/-! Several cores -/

/-- 60_exceptions.md R268: a step of one core moves that core as it would move alone, and no other. The model's
choice, no rule of the spec: that several instances are a list of states (log entry 10). -/
def Obligations.CoresShareNothing : Prop :=
  ∀ (k : Nat) (cores after : List State), stepAt k cores = .next after →
    after.length = cores.length ∧
    (∀ s, cores[k]? = some s → ∃ t, step s = .next t ∧ after[k]? = some t) ∧
    ∀ j, j ≠ k → after[j]? = cores[j]?

/-- 20_memory.md R79, R61: a core answers to its own window, register by register, and not to another's. That a misaligned
address selects none is the model's choice (log entry 12): R67 leaves what a bus does with one outside the core. -/
def Obligations.BusWindowsSelectOneRegister : Prop :=
  ∀ (b : Nat) (idx : BitVec 7),
    portIndex b (busAddress b idx) = some idx ∧
    (∀ off, 0 < off → off < 4 → portIndex b (busAddress b idx + off) = none) ∧
    (∀ b', b' ≠ b → portIndex b' (busAddress b idx) = none)

/-! The host notation -/

/-- 30_encoding.md R99 with 20_memory.md R62, R63, R64: `wr4` of a string of 4k bytes loads key bytes or block bytes
in order, one register a step, and changes nothing else. The model's choice, no rule of the spec: that the accesses to
make are a list, of which a step takes the first (log entry 4), and which strings and offsets wr4 refuses (log entries
12 and 20). -/
def Obligations.StringWriteLoadsKeyAndBlockBytes : Prop :=
  ∀ (s : State) (h : List Byte) (k : Nat) (rest : List HostOp), s.rstN = true → s.pend = none → h.length = 4 * k →
    (k ≤ 8 → ∃ ops key, wr4 0x020 h = some ops ∧
      Host.Core.run Sys2Proof.core k { s with host := ops ++ rest } = .next { s with key := key, host := rest } ∧
      ∀ m : Fin 32, keyByte key m = if m.val < h.length then h.getD m.val 0 else keyByte s.key m) ∧
    (k ≤ 4 → ∃ ops data, wr4 0x040 h = some ops ∧
      Host.Core.run Sys2Proof.core k { s with host := ops ++ rest } = .next { s with data := data, host := rest } ∧
      ∀ n : Fin 16, blockByte data n = if n.val < h.length then h.getD n.val 0 else blockByte s.data n)
end

