-- ==== Sys2Proof/Laws/Operands.lean ====
section
/-! SUPPORT. Bits of placed fields, bytes of packed words, and bytes of blocks built byte by byte. -/

namespace Sys2Proof.Machine

theorem getLsbD_placeField {n : Nat} (v : BitVec n) (lo i : Nat) :
    (placeField v lo).getLsbD i = (decide (i < 32) && (decide (lo ≤ i) && v.getLsbD (i - lo))) := by
  rw [placeField, BitVec.getLsbD_shiftLeft, BitVec.getLsbD_setWidth]
  rcases Nat.lt_or_ge i 32 with h | h <;> rcases Nat.lt_or_ge i lo with h' | h' <;>
    simp [h, Nat.not_lt.mpr, h', Nat.not_le.mpr]
  omega

/-- The bits of byte `j` of a word (20_memory.md R62). -/
theorem getLsbD_byteOf (w : Word) (j : Fin 4) (i : Nat) :
    (byteOf w j).getLsbD i = (decide (i < 8) && w.getLsbD (24 - 8 * j.val + i)) := by
  rw [byteOf, BitVec.getLsbD_extractLsb']

/-- The bytes of a packed word are the bytes packed (20_memory.md R62). -/
theorem byteOf_packWord (b0 b1 b2 b3 : Byte) (j : Fin 4) :
    byteOf (packWord b0 b1 b2 b3) j = #v[b0, b1, b2, b3][j] := by
  refine BitVec.eq_of_getLsbD_eq fun i hi => ?_
  simp only [getLsbD_byteOf, packWord, BitVec.getLsbD_or, getLsbD_placeField]
  fin_cases j <;> interval_cases i <;> simp [BitVec.getLsbD_of_ge]

/-- Packing a word's own bytes gives the word back. -/
theorem packWord_byteOf (w : Word) : packWord (byteOf w 0) (byteOf w 1) (byteOf w 2) (byteOf w 3) = w := by
  refine BitVec.eq_of_getLsbD_eq fun i hi => ?_
  simp only [getLsbD_byteOf, packWord, BitVec.getLsbD_or, getLsbD_placeField]
  interval_cases i <;> simp

/-- The bytes of a block built byte by byte (10_state.md R31). -/
@[simp] theorem stateByte_ofMatrix (f : Fin 4 → Fin 4 → Byte) (r c : Fin 4) : stateByte (ofMatrix f) r c = f r c := by
  fin_cases c <;> fin_cases r <;> simp [stateByte, ofMatrix, byteOf_packWord]

/-- A block is built from its own bytes. -/
@[simp] theorem ofMatrix_stateByte (s : Block) : ofMatrix (stateByte s) = s := by
  ext c hc
  interval_cases c <;> simp [ofMatrix, stateByte, packWord_byteOf]

/-- Two blocks with the same bytes are equal. -/
theorem block_ext {s t : Block} (h : ∀ r c, stateByte s r c = stateByte t r c) : s = t := by
  rw [← ofMatrix_stateByte s, ← ofMatrix_stateByte t, funext fun r => funext (h r)]

/-- Adding a round key XORs word `4 * rnd + c` into column `c` (44_forward_pipeline.md R193). -/
theorem addRoundKey_column (s : Block) (w : Vector Word 60) (rnd : Nat) (c : Fin 4) :
    (addRoundKey s w rnd)[c] = s[c] ^^^ ramWord w (4 * rnd + c.val) := by
  fin_cases c <;> rfl

end Sys2Proof.Machine
end

