-- ==== Sys2Proof/Laws/Encoding.lean ====
section
/-! SUPPORT. The fields of a command word built from its fields. -/

namespace Sys2Proof

open Sys2Proof.Machine

@[simp] theorem fieldOp_commandWord (op : Byte) (n : BitVec 4) (a b : Byte) : fieldOp (commandWord op n a b) = op := by
  refine BitVec.eq_of_getLsbD_eq fun i hi => ?_
  simp only [fieldOp, commandWord, BitVec.getLsbD_extractLsb', BitVec.getLsbD_or, getLsbD_placeField]
  interval_cases i <;> simp

@[simp] theorem fieldN_commandWord (op : Byte) (n : BitVec 4) (a b : Byte) : fieldN (commandWord op n a b) = n := by
  refine BitVec.eq_of_getLsbD_eq fun i hi => ?_
  simp only [fieldN, commandWord, BitVec.getLsbD_extractLsb', BitVec.getLsbD_or, getLsbD_placeField]
  interval_cases i <;> simp [BitVec.getLsbD_of_ge]

@[simp] theorem fieldT_commandWord (op : Byte) (t : BitVec 3) (a b : Byte) :
    fieldT (commandWord op (t.setWidth 4) a b) = t := by
  refine BitVec.eq_of_getLsbD_eq fun i hi => ?_
  simp only [fieldT, commandWord, BitVec.getLsbD_extractLsb', BitVec.getLsbD_or, getLsbD_placeField]
  interval_cases i <;> simp [BitVec.getLsbD_of_ge]

@[simp] theorem fieldA_commandWord (op : Byte) (n : BitVec 4) (a b : Byte) : fieldA (commandWord op n a b) = a := by
  refine BitVec.eq_of_getLsbD_eq fun i hi => ?_
  simp only [fieldA, commandWord, BitVec.getLsbD_extractLsb', BitVec.getLsbD_or, getLsbD_placeField]
  interval_cases i <;> simp [BitVec.getLsbD_of_ge]

@[simp] theorem fieldB_commandWord (op : Byte) (n : BitVec 4) (a b : Byte) : fieldB (commandWord op n a b) = b := by
  refine BitVec.eq_of_getLsbD_eq fun i hi => ?_
  simp only [fieldB, commandWord, BitVec.getLsbD_extractLsb', BitVec.getLsbD_or, getLsbD_placeField]
  interval_cases i <;> simp [BitVec.getLsbD_of_ge]

/-- Bits 15:12 of a command word belong to no field and are 0 (30_encoding.md R91). -/
@[simp] theorem unused_commandWord (op : Byte) (n : BitVec 4) (a b : Byte) :
    (commandWord op n a b).extractLsb' 12 4 = 0 := by
  refine BitVec.eq_of_getLsbD_eq fun i hi => ?_
  simp only [commandWord, BitVec.getLsbD_extractLsb', BitVec.getLsbD_or, getLsbD_placeField]
  interval_cases i <;> simp [BitVec.getLsbD_of_ge]

/-- A word that holds only OP and N is of format N (30_encoding.md R92). -/
theorem hasFormat_n (op : Byte) (n : BitVec 4) : hasFormat .n op (commandWord op n 0 0) = true := by
  rw [hasFormat, beq_iff_eq]
  refine BitVec.eq_of_getLsbD_eq fun i hi => ?_
  simp only [Format.mask, commandWord, BitVec.getLsbD_and, BitVec.getLsbD_or, getLsbD_placeField, BitVec.getLsbD_setWidth]
  interval_cases i <;> simp [BitVec.getLsbD_of_ge]

/-- A word that holds only OP and A is of format A (30_encoding.md R92). -/
theorem hasFormat_a (op a : Byte) : hasFormat .a op (commandWord op 0 a 0) = true := by
  rw [hasFormat, beq_iff_eq]
  refine BitVec.eq_of_getLsbD_eq fun i hi => ?_
  simp only [Format.mask, commandWord, BitVec.getLsbD_and, BitVec.getLsbD_or, getLsbD_placeField, BitVec.getLsbD_setWidth]
  interval_cases i <;> simp [BitVec.getLsbD_of_ge]

/-- A word that holds only OP, A and B is of format AB (30_encoding.md R92). -/
theorem hasFormat_ab (op a b : Byte) : hasFormat .ab op (commandWord op 0 a b) = true := by
  rw [hasFormat, beq_iff_eq]
  refine BitVec.eq_of_getLsbD_eq fun i hi => ?_
  simp only [Format.mask, commandWord, BitVec.getLsbD_and, BitVec.getLsbD_or, getLsbD_placeField, BitVec.getLsbD_setWidth]
  interval_cases i <;> simp [BitVec.getLsbD_of_ge]

/-- A word that holds only OP, T and A is of format TA (30_encoding.md R92). -/
theorem hasFormat_ta (op : Byte) (t : BitVec 3) (a : Byte) :
    hasFormat .ta op (commandWord op (t.setWidth 4) a 0) = true := by
  rw [hasFormat, beq_iff_eq]
  refine BitVec.eq_of_getLsbD_eq fun i hi => ?_
  simp only [Format.mask, commandWord, BitVec.getLsbD_and, BitVec.getLsbD_or, getLsbD_placeField, BitVec.getLsbD_setWidth]
  interval_cases i <;> simp [BitVec.getLsbD_of_ge]

end Sys2Proof
end

