-- ==== Sys2Proof/Laws/State.lean ====
section
/-! SUPPORT. What each update of the state leaves in each field. -/

namespace Sys2Proof.Machine

variable (s : State)

@[simp] theorem State.setErr_key (e : ErrCode) : (s.setErr e).key = s.key := rfl
@[simp] theorem State.setErr_data (e : ErrCode) : (s.setErr e).data = s.data := rfl
@[simp] theorem State.setErr_keylen (e : ErrCode) : (s.setErr e).keylen = s.keylen := rfl
@[simp] theorem State.setErr_blklen (e : ErrCode) : (s.setErr e).blklen = s.blklen := rfl
@[simp] theorem State.setErr_result (e : ErrCode) : (s.setErr e).result = s.result := rfl
@[simp] theorem State.setErr_err (e : ErrCode) : (s.setErr e).err = e := rfl
@[simp] theorem State.setErr_swords (e : ErrCode) : (s.setErr e).swords = s.swords := rfl
@[simp] theorem State.setErr_rkram (e : ErrCode) : (s.setErr e).rkram = s.rkram := rfl
@[simp] theorem State.setErr_pend (e : ErrCode) : (s.setErr e).pend = s.pend := rfl
@[simp] theorem State.setErr_latency (e : ErrCode) : (s.setErr e).latency = s.latency := rfl
@[simp] theorem State.setErr_rstN (e : ErrCode) : (s.setErr e).rstN = s.rstN := rfl
@[simp] theorem State.setErr_draws (e : ErrCode) : (s.setErr e).draws = s.draws := rfl
@[simp] theorem State.setErr_host (e : ErrCode) : (s.setErr e).host = s.host := rfl
@[simp] theorem State.setErr_reads (e : ErrCode) : (s.setErr e).reads = s.reads := rfl

@[simp] theorem State.setData_key (d : Block) : (s.setData d).key = s.key := rfl
@[simp] theorem State.setData_data (d : Block) : (s.setData d).data = d := rfl
@[simp] theorem State.setData_keylen (d : Block) : (s.setData d).keylen = s.keylen := rfl
@[simp] theorem State.setData_blklen (d : Block) : (s.setData d).blklen = s.blklen := rfl
@[simp] theorem State.setData_result (d : Block) : (s.setData d).result = s.result := rfl
@[simp] theorem State.setData_err (d : Block) : (s.setData d).err = s.err := rfl
@[simp] theorem State.setData_swords (d : Block) : (s.setData d).swords = s.swords := rfl
@[simp] theorem State.setData_rkram (d : Block) : (s.setData d).rkram = s.rkram := rfl
@[simp] theorem State.setData_pend (d : Block) : (s.setData d).pend = s.pend := rfl
@[simp] theorem State.setData_latency (d : Block) : (s.setData d).latency = s.latency := rfl
@[simp] theorem State.setData_rstN (d : Block) : (s.setData d).rstN = s.rstN := rfl
@[simp] theorem State.setData_draws (d : Block) : (s.setData d).draws = s.draws := rfl
@[simp] theorem State.setData_host (d : Block) : (s.setData d).host = s.host := rfl
@[simp] theorem State.setData_reads (d : Block) : (s.setData d).reads = s.reads := rfl

@[simp] theorem State.setResult_key (b : Byte) : (s.setResult b).key = s.key := rfl
@[simp] theorem State.setResult_data (b : Byte) : (s.setResult b).data = s.data := rfl
@[simp] theorem State.setResult_keylen (b : Byte) : (s.setResult b).keylen = s.keylen := rfl
@[simp] theorem State.setResult_blklen (b : Byte) : (s.setResult b).blklen = s.blklen := rfl
@[simp] theorem State.setResult_result (b : Byte) : (s.setResult b).result = b := rfl
@[simp] theorem State.setResult_err (b : Byte) : (s.setResult b).err = s.err := rfl
@[simp] theorem State.setResult_swords (b : Byte) : (s.setResult b).swords = s.swords := rfl
@[simp] theorem State.setResult_rkram (b : Byte) : (s.setResult b).rkram = s.rkram := rfl
@[simp] theorem State.setResult_pend (b : Byte) : (s.setResult b).pend = s.pend := rfl
@[simp] theorem State.setResult_latency (b : Byte) : (s.setResult b).latency = s.latency := rfl
@[simp] theorem State.setResult_rstN (b : Byte) : (s.setResult b).rstN = s.rstN := rfl
@[simp] theorem State.setResult_draws (b : Byte) : (s.setResult b).draws = s.draws := rfl
@[simp] theorem State.setResult_host (b : Byte) : (s.setResult b).host = s.host := rfl
@[simp] theorem State.setResult_reads (b : Byte) : (s.setResult b).reads = s.reads := rfl

@[simp] theorem State.setSchedule_key (w : List Word) : (s.setSchedule w).key = s.key := rfl
@[simp] theorem State.setSchedule_data (w : List Word) : (s.setSchedule w).data = s.data := rfl
@[simp] theorem State.setSchedule_keylen (w : List Word) : (s.setSchedule w).keylen = s.keylen := rfl
@[simp] theorem State.setSchedule_blklen (w : List Word) : (s.setSchedule w).blklen = s.blklen := rfl
@[simp] theorem State.setSchedule_result (w : List Word) : (s.setSchedule w).result = s.result := rfl
@[simp] theorem State.setSchedule_err (w : List Word) : (s.setSchedule w).err = s.err := rfl
@[simp] theorem State.setSchedule_swords (w : List Word) : (s.setSchedule w).swords = BitVec.ofNat 6 w.length := rfl
@[simp] theorem State.setSchedule_rkram (w : List Word) : (s.setSchedule w).rkram = Vector.ofFn fun i => if i.val < w.length then w.getD i.val 0 else s.rkram[i] := rfl
@[simp] theorem State.setSchedule_pend (w : List Word) : (s.setSchedule w).pend = s.pend := rfl
@[simp] theorem State.setSchedule_latency (w : List Word) : (s.setSchedule w).latency = s.latency := rfl
@[simp] theorem State.setSchedule_rstN (w : List Word) : (s.setSchedule w).rstN = s.rstN := rfl
@[simp] theorem State.setSchedule_draws (w : List Word) : (s.setSchedule w).draws = s.draws := rfl
@[simp] theorem State.setSchedule_host (w : List Word) : (s.setSchedule w).host = s.host := rfl
@[simp] theorem State.setSchedule_reads (w : List Word) : (s.setSchedule w).reads = s.reads := rfl

@[simp] theorem State.retire_key : s.retire.key = s.key := rfl
@[simp] theorem State.retire_data : s.retire.data = s.data := rfl
@[simp] theorem State.retire_keylen : s.retire.keylen = s.keylen := rfl
@[simp] theorem State.retire_blklen : s.retire.blklen = s.blklen := rfl
@[simp] theorem State.retire_result : s.retire.result = s.result := rfl
@[simp] theorem State.retire_err : s.retire.err = s.err := rfl
@[simp] theorem State.retire_swords : s.retire.swords = s.swords := rfl
@[simp] theorem State.retire_rkram : s.retire.rkram = s.rkram := rfl
@[simp] theorem State.retire_pend : s.retire.pend = none := rfl
@[simp] theorem State.retire_latency : s.retire.latency = s.latency := rfl
@[simp] theorem State.retire_rstN : s.retire.rstN = s.rstN := rfl
@[simp] theorem State.retire_draws : s.retire.draws = s.draws := rfl
@[simp] theorem State.retire_host : s.retire.host = s.host := rfl
@[simp] theorem State.retire_reads : s.retire.reads = s.reads := rfl

@[simp] theorem State.accept_key (v : Word) : (s.accept v).key = s.key := rfl
@[simp] theorem State.accept_data (v : Word) : (s.accept v).data = s.data := rfl
@[simp] theorem State.accept_keylen (v : Word) : (s.accept v).keylen = s.keylen := rfl
@[simp] theorem State.accept_blklen (v : Word) : (s.accept v).blklen = s.blklen := rfl
@[simp] theorem State.accept_result (v : Word) : (s.accept v).result = s.result := rfl
@[simp] theorem State.accept_err (v : Word) : (s.accept v).err = s.err := rfl
@[simp] theorem State.accept_swords (v : Word) : (s.accept v).swords = s.swords := rfl
@[simp] theorem State.accept_rkram (v : Word) : (s.accept v).rkram = s.rkram := rfl
@[simp] theorem State.accept_pend (v : Word) : (s.accept v).pend = some v := rfl
@[simp] theorem State.accept_latency (v : Word) : (s.accept v).latency = Config.latency s.draws (v :: s.visible) := rfl
@[simp] theorem State.accept_rstN (v : Word) : (s.accept v).rstN = s.rstN := rfl
@[simp] theorem State.accept_draws (v : Word) : (s.accept v).draws = s.draws + 1 := rfl
@[simp] theorem State.accept_host (v : Word) : (s.accept v).host = s.host := rfl
@[simp] theorem State.accept_reads (v : Word) : (s.accept v).reads = s.reads := rfl

@[simp] theorem State.setLatency_key (n : Nat) : (s.setLatency n).key = s.key := rfl
@[simp] theorem State.setLatency_data (n : Nat) : (s.setLatency n).data = s.data := rfl
@[simp] theorem State.setLatency_keylen (n : Nat) : (s.setLatency n).keylen = s.keylen := rfl
@[simp] theorem State.setLatency_blklen (n : Nat) : (s.setLatency n).blklen = s.blklen := rfl
@[simp] theorem State.setLatency_result (n : Nat) : (s.setLatency n).result = s.result := rfl
@[simp] theorem State.setLatency_err (n : Nat) : (s.setLatency n).err = s.err := rfl
@[simp] theorem State.setLatency_swords (n : Nat) : (s.setLatency n).swords = s.swords := rfl
@[simp] theorem State.setLatency_rkram (n : Nat) : (s.setLatency n).rkram = s.rkram := rfl
@[simp] theorem State.setLatency_pend (n : Nat) : (s.setLatency n).pend = s.pend := rfl
@[simp] theorem State.setLatency_latency (n : Nat) : (s.setLatency n).latency = n := rfl
@[simp] theorem State.setLatency_rstN (n : Nat) : (s.setLatency n).rstN = s.rstN := rfl
@[simp] theorem State.setLatency_draws (n : Nat) : (s.setLatency n).draws = s.draws := rfl
@[simp] theorem State.setLatency_host (n : Nat) : (s.setLatency n).host = s.host := rfl
@[simp] theorem State.setLatency_reads (n : Nat) : (s.setLatency n).reads = s.reads := rfl

@[simp] theorem State.setHost_key (ops : List HostOp) : (s.setHost ops).key = s.key := rfl
@[simp] theorem State.setHost_data (ops : List HostOp) : (s.setHost ops).data = s.data := rfl
@[simp] theorem State.setHost_keylen (ops : List HostOp) : (s.setHost ops).keylen = s.keylen := rfl
@[simp] theorem State.setHost_blklen (ops : List HostOp) : (s.setHost ops).blklen = s.blklen := rfl
@[simp] theorem State.setHost_result (ops : List HostOp) : (s.setHost ops).result = s.result := rfl
@[simp] theorem State.setHost_err (ops : List HostOp) : (s.setHost ops).err = s.err := rfl
@[simp] theorem State.setHost_swords (ops : List HostOp) : (s.setHost ops).swords = s.swords := rfl
@[simp] theorem State.setHost_rkram (ops : List HostOp) : (s.setHost ops).rkram = s.rkram := rfl
@[simp] theorem State.setHost_pend (ops : List HostOp) : (s.setHost ops).pend = s.pend := rfl
@[simp] theorem State.setHost_latency (ops : List HostOp) : (s.setHost ops).latency = s.latency := rfl
@[simp] theorem State.setHost_rstN (ops : List HostOp) : (s.setHost ops).rstN = s.rstN := rfl
@[simp] theorem State.setHost_draws (ops : List HostOp) : (s.setHost ops).draws = s.draws := rfl
@[simp] theorem State.setHost_host (ops : List HostOp) : (s.setHost ops).host = ops := rfl
@[simp] theorem State.setHost_reads (ops : List HostOp) : (s.setHost ops).reads = s.reads := rfl

@[simp] theorem State.recordRead_key (v : Word) : (s.recordRead v).key = s.key := rfl
@[simp] theorem State.recordRead_data (v : Word) : (s.recordRead v).data = s.data := rfl
@[simp] theorem State.recordRead_keylen (v : Word) : (s.recordRead v).keylen = s.keylen := rfl
@[simp] theorem State.recordRead_blklen (v : Word) : (s.recordRead v).blklen = s.blklen := rfl
@[simp] theorem State.recordRead_result (v : Word) : (s.recordRead v).result = s.result := rfl
@[simp] theorem State.recordRead_err (v : Word) : (s.recordRead v).err = s.err := rfl
@[simp] theorem State.recordRead_swords (v : Word) : (s.recordRead v).swords = s.swords := rfl
@[simp] theorem State.recordRead_rkram (v : Word) : (s.recordRead v).rkram = s.rkram := rfl
@[simp] theorem State.recordRead_pend (v : Word) : (s.recordRead v).pend = s.pend := rfl
@[simp] theorem State.recordRead_latency (v : Word) : (s.recordRead v).latency = s.latency := rfl
@[simp] theorem State.recordRead_rstN (v : Word) : (s.recordRead v).rstN = s.rstN := rfl
@[simp] theorem State.recordRead_draws (v : Word) : (s.recordRead v).draws = s.draws := rfl
@[simp] theorem State.recordRead_host (v : Word) : (s.recordRead v).host = s.host := rfl
@[simp] theorem State.recordRead_reads (v : Word) : (s.recordRead v).reads = s.reads ++ [v] := rfl

@[simp] theorem State.setRstN_key (level : Bool) : (s.setRstN level).key = s.key := rfl
@[simp] theorem State.setRstN_data (level : Bool) : (s.setRstN level).data = s.data := rfl
@[simp] theorem State.setRstN_keylen (level : Bool) : (s.setRstN level).keylen = s.keylen := rfl
@[simp] theorem State.setRstN_blklen (level : Bool) : (s.setRstN level).blklen = s.blklen := rfl
@[simp] theorem State.setRstN_result (level : Bool) : (s.setRstN level).result = s.result := rfl
@[simp] theorem State.setRstN_err (level : Bool) : (s.setRstN level).err = s.err := rfl
@[simp] theorem State.setRstN_swords (level : Bool) : (s.setRstN level).swords = s.swords := rfl
@[simp] theorem State.setRstN_rkram (level : Bool) : (s.setRstN level).rkram = s.rkram := rfl
@[simp] theorem State.setRstN_pend (level : Bool) : (s.setRstN level).pend = s.pend := rfl
@[simp] theorem State.setRstN_latency (level : Bool) : (s.setRstN level).latency = s.latency := rfl
@[simp] theorem State.setRstN_rstN (level : Bool) : (s.setRstN level).rstN = level := rfl
@[simp] theorem State.setRstN_draws (level : Bool) : (s.setRstN level).draws = s.draws := rfl
@[simp] theorem State.setRstN_host (level : Bool) : (s.setRstN level).host = s.host := rfl
@[simp] theorem State.setRstN_reads (level : Bool) : (s.setRstN level).reads = s.reads := rfl

@[simp] theorem State.holdReset_key : s.holdReset.key = State.reset.key := rfl
@[simp] theorem State.holdReset_data : s.holdReset.data = State.reset.data := rfl
@[simp] theorem State.holdReset_keylen : s.holdReset.keylen = State.reset.keylen := rfl
@[simp] theorem State.holdReset_blklen : s.holdReset.blklen = State.reset.blklen := rfl
@[simp] theorem State.holdReset_result : s.holdReset.result = State.reset.result := rfl
@[simp] theorem State.holdReset_err : s.holdReset.err = State.reset.err := rfl
@[simp] theorem State.holdReset_swords : s.holdReset.swords = State.reset.swords := rfl
@[simp] theorem State.holdReset_rkram : s.holdReset.rkram = State.reset.rkram := rfl
@[simp] theorem State.holdReset_pend : s.holdReset.pend = State.reset.pend := rfl
@[simp] theorem State.holdReset_latency : s.holdReset.latency = State.reset.latency := rfl
@[simp] theorem State.holdReset_rstN : s.holdReset.rstN = s.rstN := rfl
@[simp] theorem State.holdReset_draws : s.holdReset.draws = s.draws := rfl
@[simp] theorem State.holdReset_host : s.holdReset.host = s.host := rfl
@[simp] theorem State.holdReset_reads : s.holdReset.reads = s.reads := rfl

@[simp] theorem State.withCommand_key (cw : Word) : (s.withCommand cw).key = s.key := rfl
@[simp] theorem State.withCommand_data (cw : Word) : (s.withCommand cw).data = s.data := rfl
@[simp] theorem State.withCommand_keylen (cw : Word) : (s.withCommand cw).keylen = s.keylen := rfl
@[simp] theorem State.withCommand_blklen (cw : Word) : (s.withCommand cw).blklen = s.blklen := rfl
@[simp] theorem State.withCommand_result (cw : Word) : (s.withCommand cw).result = s.result := rfl
@[simp] theorem State.withCommand_err (cw : Word) : (s.withCommand cw).err = s.err := rfl
@[simp] theorem State.withCommand_swords (cw : Word) : (s.withCommand cw).swords = s.swords := rfl
@[simp] theorem State.withCommand_rkram (cw : Word) : (s.withCommand cw).rkram = s.rkram := rfl
@[simp] theorem State.withCommand_pend (cw : Word) : (s.withCommand cw).pend = some cw := rfl
@[simp] theorem State.withCommand_latency (cw : Word) : (s.withCommand cw).latency = 0 := rfl
@[simp] theorem State.withCommand_rstN (cw : Word) : (s.withCommand cw).rstN = true := rfl
@[simp] theorem State.withCommand_draws (cw : Word) : (s.withCommand cw).draws = s.draws := rfl
@[simp] theorem State.withCommand_host (cw : Word) : (s.withCommand cw).host = s.host := rfl
@[simp] theorem State.withCommand_reads (cw : Word) : (s.withCommand cw).reads = s.reads := rfl

end Sys2Proof.Machine
end

