-- ==== Sys2Proof/Laws/Exec.lean ====
section
/-! SUPPORT. What the checks decide, how long a schedule is, and everything a command can do. -/

namespace Sys2Proof.Machine

theorem complete_eq (s : State) : complete s = .next (s.setErr .ok) := rfl

theorem raiseErr_eq (e : ErrCode) (s : State) : raiseErr e s = .next (s.setErr e) := rfl

/-- A declared key length names a variant exactly when it is 16, 24 or 32 (00_scope.md R8). -/
theorem keyWords_eq_some {k : BitVec 6} {nk : Nat} :
    keyWords k = some nk ↔ (k = 16 ∧ nk = 4) ∨ (k = 24 ∧ nk = 6) ∨ (k = 32 ∧ nk = 8) := by
  have h : ∀ k : BitVec 6, keyWords k =
      if k = 16 then some 4 else if k = 24 then some 6 else if k = 32 then some 8 else none := by decide
  rw [h k]
  by_cases h1 : k = 16
  · subst h1; simp [eq_comm]
  by_cases h2 : k = 24
  · subst h2; simp [eq_comm]
  by_cases h3 : k = 32
  · subst h3; simp [eq_comm]
  rw [if_neg h1, if_neg h2, if_neg h3]
  exact ⟨nofun, fun h => by tauto⟩

/-- A declared key length fails exactly when it is not 16, 24 or 32 (60_exceptions.md R252). -/
theorem keyWords_eq_none {k : BitVec 6} : keyWords k = none ↔ k ≠ 16 ∧ k ≠ 24 ∧ k ≠ 32 := by
  revert k; decide

/-- The checks of ENCRYPT and DECRYPT pass exactly under the two conditions of 44_forward_pipeline.md R196. -/
theorem cipherCheck_eq_none {nr : BitVec 4} {s : State} :
    cipherCheck nr s = none ↔ s.blklen = 16 ∧ s.swords.toNat = 4 * (nr.toNat + 1) := by
  have hb : s.blklen.toNat = 16 ↔ s.blklen = 16 :=
    ⟨fun h => BitVec.eq_of_toNat_eq h, fun h => by rw [h]; rfl⟩
  unfold cipherCheck
  by_cases h1 : s.blklen.toNat = 16 <;> by_cases h2 : s.swords.toNat = 4 * (nr.toNat + 1) <;> simp_all

/-- The check of ADD_ROUND_KEY passes exactly when the round key is held (44_forward_pipeline.md R200). -/
theorem roundKeyCheck_eq_none {r : BitVec 4} {s : State} :
    roundKeyCheck r s = none ↔ 4 * r.toNat + 3 < s.swords.toNat := by
  unfold roundKeyCheck
  split
  · simp; omega
  · simp; omega

theorem length_extendSchedule (nk n : Nat) (w : List Word) : (extendSchedule nk n w).length = w.length + n := by
  induction n generalizing w with
  | zero => rfl
  | succ n ih => rw [extendSchedule, ih, List.length_append, List.length_singleton]; omega

/-- "This produces exactly 4*(Nr+1) words" (43_key_schedule.md R172). -/
theorem length_keyExpansion {nk : Nat} {key : List Word} (hk : key.length = nk) (h : nk ≤ 8) :
    (keyExpansion nk key).length = 4 * (nk + 7) := by
  rw [keyExpansion, length_extendSchedule, hk]; omega

/-- The words so far stay where they are. -/
theorem getElem?_extendSchedule (nk n : Nat) (w : List Word) {i : Nat} (h : i < w.length) :
    (extendSchedule nk n w)[i]? = w[i]? := by
  induction n generalizing w with
  | zero => rfl
  | succ n ih =>
    rw [extendSchedule, ih _ (by rw [List.length_append]; omega), List.getElem?_append_left h]

/-- EXPAND_KEY reads Nk key words. -/
theorem length_heldKey {nk : Nat} (h : nk ≤ 8) (s : State) : (heldKey nk s).length = nk := by
  rw [heldKey, List.length_take, Vector.length_toList]; omega

/-- Below the length of a written schedule RKRAM holds it, above it RKRAM keeps its content (10_state.md R33). -/
theorem setSchedule_rkram_getElem (s : State) (w : List Word) (i : Nat) (h : i < 60) :
    (s.setSchedule w).rkram[i] = if i < w.length then w.getD i 0 else s.rkram[i] := by
  rw [State.setSchedule_rkram, Vector.getElem_ofFn]; rfl

/-- Everything a command can do: fail, writing ERR alone; or succeed, writing nothing else, DATA, RESULT or the
schedule (10_state.md R36). -/
theorem exec_inversion {i : Instr} {s t : State} (h : exec i s = .next t) :
    (∃ e, e ≠ .ok ∧ t = s.setErr e) ∨
    t = s.setErr .ok ∨
    (∃ d, t = (s.setData d).setErr .ok) ∨
    (∃ b, t = (s.setResult b).setErr .ok) ∨
    (∃ nk, i = .expandKey ∧ keyWords s.keylen = some nk ∧
      t = (s.setSchedule (keyExpansion nk (heldKey nk s))).setErr .ok) := by
  have cipherFails : ∀ {nr e}, cipherCheck nr s = some e → e ≠ .ok := by
    intro nr e he
    unfold cipherCheck at he
    split at he
    · cases he; decide
    · split at he
      · cases he; decide
      · cases he
  cases i <;>
    simp only [exec, execNop, execExpandKey, execEncrypt, execDecrypt, execSubBytes, execShiftRows, execMixColumns,
      execAddRoundKey, execInvSubBytes, execInvShiftRows, execInvMixColumns, execGfMul, execGfTbl, execSubByte,
      execInvSubByte, execRcon, complete_eq, raiseErr_eq] at h
  case nop => cases h; exact .inr (.inl rfl)
  case expandKey =>
    split at h
    · cases h; exact .inl ⟨_, by decide, rfl⟩
    · rename_i nk hk
      cases h; exact .inr (.inr (.inr (.inr ⟨nk, rfl, hk, rfl⟩)))
  case encrypt =>
    split at h
    · rename_i e he
      cases h; exact .inl ⟨e, cipherFails he, rfl⟩
    · cases h; exact .inr (.inr (.inl ⟨_, rfl⟩))
  case decrypt =>
    split at h
    · rename_i e he
      cases h; exact .inl ⟨e, cipherFails he, rfl⟩
    · cases h; exact .inr (.inr (.inl ⟨_, rfl⟩))
  case addRoundKey =>
    split at h
    · rename_i e he
      refine .inl ⟨e, ?_, by cases h; rfl⟩
      unfold roundKeyCheck at he
      split at he <;> cases he
      decide
    · cases h; exact .inr (.inr (.inl ⟨_, rfl⟩))
  case gfTbl =>
    split at h
    · cases h; exact .inr (.inr (.inr (.inl ⟨_, rfl⟩)))
    · cases h; exact .inl ⟨_, by decide, rfl⟩
  case gfMul => cases h; exact .inr (.inr (.inr (.inl ⟨_, rfl⟩)))
  case subByte => cases h; exact .inr (.inr (.inr (.inl ⟨_, rfl⟩)))
  case invSubByte => cases h; exact .inr (.inr (.inr (.inl ⟨_, rfl⟩)))
  case rcon => cases h; exact .inr (.inr (.inr (.inl ⟨_, rfl⟩)))
  all_goals cases h; exact .inr (.inr (.inl ⟨_, rfl⟩))

end Sys2Proof.Machine
end

