-- ==== Sys2Proof/Laws/HostSyntax.lean ====
section
/-! SUPPORT. What the host program notation expands to, and when it is refused. -/

namespace Sys2Proof.Machine

/-- The offset of a register of the window names it (20_memory.md R61). -/
@[simp] theorem indexOfOffset_four_mul (idx : BitVec 7) : indexOfOffset (4 * idx.toNat) = some idx := by
  have := idx.isLt
  simp [indexOfOffset]
  omega

/-- An offset names the register `idx` exactly if it is `4 * idx` (20_memory.md R61). -/
theorem indexOfOffset_eq_some {off : Nat} {idx : BitVec 7} : indexOfOffset off = some idx ↔ off = 4 * idx.toNat := by
  refine ⟨fun h => ?_, fun h => h ▸ indexOfOffset_four_mul idx⟩
  unfold indexOfOffset at h
  split at h
  · cases h
    simp only [BitVec.toNat_ofNat]
    omega
  · cases h

/-- An offset is refused exactly if it is misaligned or outside the window (log entry 12). -/
theorem indexOfOffset_eq_none {off : Nat} : indexOfOffset off = none ↔ off % 4 ≠ 0 ∨ 0x200 ≤ off := by
  unfold indexOfOffset
  split <;> simp <;> omega

@[simp] theorem rd_four_mul (idx : BitVec 7) : rd (4 * idx.toNat) = some (.read idx) := by simp [rd]

@[simp] theorem wr_four_mul (idx : BitVec 7) (v : Word) : wr (4 * idx.toNat) v = some (.write idx v) := by simp [wr]

/-- `cmd` is a `wr` to CMD, at offset 0x008 (30_encoding.md R99). -/
theorem wr_cmd (i : Instr) : wr 0x008 (encode i) = some (cmd i) := rfl

/-- The first four bytes are the first register's value (30_encoding.md R99, 20_memory.md R62). -/
theorem wr4_cons (idx : BitVec 7) (b0 b1 b2 b3 : Byte) (h : List Byte) :
    wr4 (4 * idx.toNat) (b0 :: b1 :: b2 :: b3 :: h) =
      (wr4 (4 * idx.toNat + 4) h).map (.write idx (packWord b0 b1 b2 b3) :: ·) := by
  rw [wr4, wr_four_mul]
  cases wr4 (4 * idx.toNat + 4) h <;> rfl

/-- One access for each register, and 4 bytes for each access (30_encoding.md R99). -/
theorem wr4_length : ∀ {off : Nat} {h : List Byte} {ops : List HostOp}, wr4 off h = some ops → h.length = 4 * ops.length
  | _, [], _, e => by cases e; rfl
  | off, b0 :: b1 :: b2 :: b3 :: h, ops, e => by
    rw [wr4] at e
    split at e
    · rename_i hs
      cases e
      simp only [List.length_cons, wr4_length hs]
      omega
    · cases e
  | _, [_], _, e => by cases e
  | _, [_, _], _, e => by cases e
  | _, [_, _, _], _, e => by cases e

/-- Access k of the expansion writes the register k places on, with bytes 4k to 4k+3 of the string in the order of
20_memory.md R62. -/
theorem wr4_access : ∀ {off : Nat} {h : List Byte} {ops : List HostOp}, wr4 off h = some ops →
    ∀ k, k < ops.length → ∃ (idx : BitVec 7) (v : Word), ops[k]? = some (.write idx v) ∧ off + 4 * k = 4 * idx.toNat ∧
      ∀ j : Fin 4, byteOf v j = h.getD (4 * k + j.val) 0
  | _, [], _, e, k, hk => by cases e; cases hk
  | off, b0 :: b1 :: b2 :: b3 :: h, ops, e, k, hk => by
    rw [wr4] at e
    split at e
    · rename_i op rest hw hs
      cases e
      cases k with
      | zero =>
        obtain ⟨idx, hi, rfl⟩ := Option.map_eq_some_iff.1 hw
        refine ⟨idx, _, rfl, indexOfOffset_eq_some.1 hi, fun j => ?_⟩
        rw [byteOf_packWord]
        fin_cases j <;> rfl
      | succ k =>
        obtain ⟨idx, v, ho, hoff, hb⟩ := wr4_access hs k (Nat.lt_of_succ_lt_succ hk)
        refine ⟨idx, v, ho, by omega, fun j => ?_⟩
        rw [hb j, show 4 * (k + 1) + j.val = 4 * k + j.val + 1 + 1 + 1 + 1 by omega]
        rfl
    · cases e
  | _, [_], _, e, _, _ => by cases e
  | _, [_, _], _, e, _, _ => by cases e
  | _, [_, _, _], _, e, _, _ => by cases e

/-- A string of 4k bytes whose k registers all lie in the window is expanded (30_encoding.md R99). -/
theorem wr4_isSome : ∀ {off : Nat} {h : List Byte} (k : Nat), h.length = 4 * k → off % 4 = 0 → off + 4 * k ≤ 0x200 →
    (wr4 off h).isSome = true
  | _, [], _, _, _, _ => rfl
  | off, b0 :: b1 :: b2 :: b3 :: h, k, hk, ha, hw => by
    simp only [List.length_cons] at hk
    obtain ⟨op, hop⟩ : ∃ op, wr off (packWord b0 b1 b2 b3) = some op := by
      simp [wr, indexOfOffset, show off % 4 = 0 ∧ off < 0x200 by omega]
    obtain ⟨ops, hops⟩ := Option.isSome_iff_exists.1
      (wr4_isSome (off := off + 4) (h := h) (k - 1) (by omega) (by omega) (by omega))
    rw [wr4, hop, hops]
    rfl
  | _, [_], k, hk, _, _ => by simp at hk; omega
  | _, [_, _], k, hk, _, _ => by simp at hk; omega
  | _, [_, _, _], k, hk, _, _ => by simp at hk; omega

end Sys2Proof.Machine
end

