-- ==== Sys2Proof/Laws/PerInstr.lean ====
section
/-! SUPPORT. The family CommandWord: what the command word of every instruction looks like. -/

namespace Sys2Proof.Laws.CommandWord

/-- The command word carries the instruction's opcode in OP, is of the instruction's format, and has its unused
bits 15:12 zero (30_encoding.md R91, R92, R94). -/
def Statement (i : Instr) : Prop :=
  fieldOp (encode i) = i.opcode ∧ hasFormat i.format i.opcode (encode i) = true ∧ (encode i).extractLsb' 12 4 = 0

theorem nop : Statement .nop := by unfold Statement; decide
theorem expandKey : Statement .expandKey := by unfold Statement; decide
theorem encrypt (nr : BitVec 4) : Statement (.encrypt nr) :=
  ⟨fieldOp_commandWord .., hasFormat_n .., unused_commandWord ..⟩
theorem decrypt (nr : BitVec 4) : Statement (.decrypt nr) :=
  ⟨fieldOp_commandWord .., hasFormat_n .., unused_commandWord ..⟩
theorem subBytes : Statement .subBytes := by unfold Statement; decide
theorem shiftRows : Statement .shiftRows := by unfold Statement; decide
theorem mixColumns : Statement .mixColumns := by unfold Statement; decide
theorem addRoundKey (r : BitVec 4) : Statement (.addRoundKey r) :=
  ⟨fieldOp_commandWord .., hasFormat_n .., unused_commandWord ..⟩
theorem invSubBytes : Statement .invSubBytes := by unfold Statement; decide
theorem invShiftRows : Statement .invShiftRows := by unfold Statement; decide
theorem invMixColumns : Statement .invMixColumns := by unfold Statement; decide
theorem gfMul (a b : Byte) : Statement (.gfMul a b) :=
  ⟨fieldOp_commandWord .., hasFormat_ab .., unused_commandWord ..⟩
theorem gfTbl (t : BitVec 3) (x : Byte) : Statement (.gfTbl t x) :=
  ⟨fieldOp_commandWord .., hasFormat_ta .., unused_commandWord ..⟩
theorem subByte (b : Byte) : Statement (.subByte b) :=
  ⟨fieldOp_commandWord .., hasFormat_a .., unused_commandWord ..⟩
theorem invSubByte (b : Byte) : Statement (.invSubByte b) :=
  ⟨fieldOp_commandWord .., hasFormat_a .., unused_commandWord ..⟩
theorem rcon (j : BitVec 4) : Statement (.rcon j) :=
  ⟨fieldOp_commandWord .., hasFormat_n .., unused_commandWord ..⟩

end Sys2Proof.Laws.CommandWord
end

