-- ==== Sys2Proof/Laws/Step.lean ====
section
/-! SUPPORT. Everything a host access and a step can do. -/

namespace Sys2Proof.Machine

theorem busy_eq_false {s : State} : s.busy = false ↔ s.pend = none := by
  simp [State.busy]

theorem busy_eq_true {s : State} : s.busy = true ↔ ∃ cw, s.pend = some cw := by
  simp [State.busy, Option.isSome_iff_exists]

/-- A read moves at most the draw counter (20_memory.md R72). -/
theorem portRead_state (idx : BitVec 7) (s : State) :
    (portRead idx s).2 = s ∨ (s.busy = true ∧ (portRead idx s).2 = { s with draws := s.draws + 1 }) := by
  unfold portRead
  split
  · rename_i h
    simp only [Bool.and_eq_true] at h
    exact .inr ⟨h.1, rfl⟩
  · exact .inl rfl

/-- While busy a write has no effect (20_memory.md R70). -/
theorem portWrite_busy {idx : BitVec 7} {v : Word} {s : State} (h : s.busy = true) : portWrite idx v s = s := by
  rw [portWrite, if_pos h]

/-- The register at an offset is CMD exactly at offset 0x008 (10_state.md R20). -/
theorem regAt_eq_cmd {idx : BitVec 7} : regAt idx = .cmd ↔ idx = 2 := by
  revert idx; decide

/-- What a write to an idle core can do: nothing, accept a command, or store into CFG, KEY or DATA (10_state.md R20). -/
theorem portWrite_idle {idx : BitVec 7} {v : Word} {s : State} (h : s.busy = false) :
    portWrite idx v s = s ∨
    (idx = 2 ∧ portWrite idx v s = s.accept v) ∨
    (∃ k d kl bl, portWrite idx v s = { s with key := k, data := d, keylen := kl, blklen := bl }) := by
  rw [portWrite, if_neg (by rw [h]; decide)]
  cases hr : regAt idx with
  | cmd => exact .inr (.inl ⟨regAt_eq_cmd.1 hr, rfl⟩)
  | cfg => exact .inr (.inr ⟨s.key, s.data, cfgKeylen v, cfgBlklen v, rfl⟩)
  | key k => exact .inr (.inr ⟨s.key.set k v, s.data, s.keylen, s.blklen, rfl⟩)
  | data c => exact .inr (.inr ⟨s.key, s.data.set c v, s.keylen, s.blklen, rfl⟩)
  | id => exact .inl rfl
  | status => exact .inl rfl
  | result => exact .inl rfl
  | rk i => exact .inl rfl
  | reserved => exact .inl rfl

/-- What the host's turn can do on a busy core: move only the host's side, the draws and the reads, or reset the core. -/
theorem hostTurn_busy {s : State} (h : s.busy = true) :
    (∃ ops d rs, hostTurn s = { s with host := ops, draws := d, reads := rs }) ∨
    (∃ rest, s.host = .setRst false :: rest ∧ hostTurn s = (s.holdReset.setRstN false).setHost rest) := by
  unfold hostTurn
  cases hh : s.host with
  | nil => exact .inl ⟨s.host, s.draws, s.reads, rfl⟩
  | cons op rest =>
    cases op with
    | read idx =>
      left
      simp only [hostAct]
      rcases portRead_state idx s with h' | ⟨-, h'⟩ <;> rw [h']
      · exact ⟨rest, s.draws, _, rfl⟩
      · exact ⟨rest, s.draws + 1, _, rfl⟩
    | write idx v =>
      left
      simp only [hostAct, portWrite_busy h]
      exact ⟨rest, s.draws, s.reads, rfl⟩
    | wait =>
      left
      simp only [hostAct, h, if_true]
      exact ⟨s.host, s.draws, s.reads, rfl⟩
    | setRst level =>
      cases level with
      | true => exact .inl ⟨rest, s.draws, s.reads, rfl⟩
      | false => exact .inr ⟨rest, rfl, rfl⟩

/-- What the host's turn can do on an idle core: store into KEY, DATA and CFG and record reads, accept a command, or
reset the core. -/
theorem hostTurn_idle {s : State} (h : s.busy = false) :
    (∃ k d kl bl ops rs, hostTurn s =
      { s with key := k, data := d, keylen := kl, blklen := bl, host := ops, reads := rs }) ∨
    (∃ v rest, s.host = .write 2 v :: rest ∧ hostTurn s = (s.accept v).setHost rest) ∨
    (∃ rest, s.host = .setRst false :: rest ∧ hostTurn s = (s.holdReset.setRstN false).setHost rest) := by
  unfold hostTurn
  cases hh : s.host with
  | nil => exact .inl ⟨s.key, s.data, s.keylen, s.blklen, s.host, s.reads, rfl⟩
  | cons op rest =>
    cases op with
    | read idx =>
      left
      simp only [hostAct]
      rcases portRead_state idx s with h' | ⟨hb, -⟩
      · rw [h']; exact ⟨s.key, s.data, s.keylen, s.blklen, rest, _, rfl⟩
      · rw [h] at hb; cases hb
    | write idx v =>
      simp only [hostAct]
      rcases portWrite_idle (idx := idx) (v := v) h with h' | ⟨rfl, h'⟩ | ⟨k, d, kl, bl, h'⟩ <;> rw [h']
      · exact .inl ⟨s.key, s.data, s.keylen, s.blklen, rest, s.reads, rfl⟩
      · exact .inr (.inl ⟨v, rest, rfl, rfl⟩)
      · exact .inl ⟨k, d, kl, bl, rest, s.reads, rfl⟩
    | wait =>
      left
      simp only [hostAct, h, if_false, Bool.false_eq_true]
      exact ⟨s.key, s.data, s.keylen, s.blklen, rest, s.reads, rfl⟩
    | setRst level =>
      cases level with
      | true => exact .inl ⟨s.key, s.data, s.keylen, s.blklen, rest, s.reads, rfl⟩
      | false => exact .inr (.inr ⟨rest, rfl, rfl⟩)

/-- Everything a step can do when it answers a next state: hold reset, drive the pin in reset, complete the pending
command, or take the host's turn with or without a command pending. -/
theorem step_inversion {s t : State} (h : step s = .next t) :
    (s.rstN = false ∧ s.host = [] ∧ t = s.holdReset) ∨
    (s.rstN = false ∧ ∃ level rest, s.host = .setRst level :: rest ∧ t = (s.holdReset.setRstN level).setHost rest) ∨
    (∃ cw u, Ready s cw ∧ execute cw s = .next u ∧ t = u.retire) ∨
    (∃ cw n, s.rstN = true ∧ s.pend = some cw ∧ s.latency = n + 1 ∧ t = hostTurn (s.setLatency n)) ∨
    (s.rstN = true ∧ s.pend = none ∧ t = hostTurn s) := by
  unfold step advance at h
  split at h
  · rename_i hr
    split at h
    · rename_i cw hp hl
      unfold completion at h
      split at h
      · rename_i u hu
        cases h
        exact .inr (.inr (.inl ⟨cw, u, ⟨hr, hp, hl⟩, hu, rfl⟩))
      · cases h
      · cases h
    · rename_i cw n hp hl
      cases h
      exact .inr (.inr (.inr (.inl ⟨cw, n, hr, hp, hl, rfl⟩)))
    · rename_i hp
      cases h
      exact .inr (.inr (.inr (.inr ⟨hr, hp, rfl⟩)))
  · rename_i hr
    have hr : s.rstN = false := by simpa using hr
    unfold resetTurn at h
    split at h
    · rename_i hh
      cases h
      exact .inl ⟨hr, hh, rfl⟩
    · rename_i level rest hh
      cases h
      exact .inr (.inl ⟨hr, level, rest, hh, rfl⟩)
    all_goals cases h

/-- A core held in reset is at its reset values (70_reset_and_hazards.md R280). -/
theorem holdReset_atResetValues (s : State) : AtResetValues s.holdReset where
  key k := by simp [State.reset]
  data c := by simp [State.reset]
  keylen := rfl
  blklen := rfl
  result := rfl
  err := rfl
  swords := rfl
  pend := rfl

end Sys2Proof.Machine
end

