-- ==== Sys2Proof/Tests/Slice0.lean ====
section
/-! SUPPORT. Tests from the worked examples and vectors of spec/, and a witness for every statement with hypotheses. -/

namespace Sys2Proof.Tests

open Sys2Proof Sys2Proof.Machine

/-! Well-formedness (30_encoding.md R95 point 3) -/

theorem test_wellFormed_refuses_selector_six : ¬ WellFormed (.gfTbl 6 0x00) := by decide
theorem test_wellFormed_refuses_selector_seven : ¬ WellFormed (.gfTbl 7 0xFF) := by decide
theorem test_wellFormed_accepts_selector_five : WellFormed (.gfTbl 5 0xFF) := by decide

/-! Decoding: one word of each command, its bits written out from 30_encoding.md R91 to R94, as B A ---- N OP. -/

theorem test_decode_nop : decode 0b00000000_00000000_0000_0000_00000000#32 = .ok .nop := by decide
theorem test_decode_expandKey : decode 0b00000000_00000000_0000_0000_00000001#32 = .ok .expandKey := by decide
theorem test_decode_encrypt : decode 0b00000000_00000000_0000_1010_00000010#32 = .ok (.encrypt 10) := by decide
theorem test_decode_decrypt : decode 0b00000000_00000000_0000_1110_00000011#32 = .ok (.decrypt 14) := by decide
theorem test_decode_subBytes : decode 0b00000000_00000000_0000_0000_00010000#32 = .ok .subBytes := by decide
theorem test_decode_shiftRows : decode 0b00000000_00000000_0000_0000_00010001#32 = .ok .shiftRows := by decide
theorem test_decode_mixColumns : decode 0b00000000_00000000_0000_0000_00010010#32 = .ok .mixColumns := by decide
theorem test_decode_addRoundKey : decode 0b00000000_00000000_0000_1011_00010011#32 = .ok (.addRoundKey 11) := by decide
theorem test_decode_invSubBytes : decode 0b00000000_00000000_0000_0000_00011000#32 = .ok .invSubBytes := by decide
theorem test_decode_invShiftRows : decode 0b00000000_00000000_0000_0000_00011001#32 = .ok .invShiftRows := by decide
theorem test_decode_invMixColumns : decode 0b00000000_00000000_0000_0000_00011010#32 = .ok .invMixColumns := by decide
theorem test_decode_gfMul : decode 0b10000011_01010111_0000_0000_00100000#32 = .ok (.gfMul 0x57 0x83) := by decide
theorem test_decode_gfTbl : decode 0b00000000_01010111_0000_0010_00100001#32 = .ok (.gfTbl 2 0x57) := by decide
theorem test_decode_subByte : decode 0b00000000_01010011_0000_0000_00100010#32 = .ok (.subByte 0x53) := by decide
theorem test_decode_invSubByte : decode 0b00000000_11101101_0000_0000_00100011#32 = .ok (.invSubByte 0xED) := by decide
theorem test_decode_rcon : decode 0b00000000_00000000_0000_1001_00100100#32 = .ok (.rcon 9) := by decide

/-- Illegal words of 95_test_vectors.md V23. -/
theorem test_decode_rejects_by_name :
    decode 0x00000004 = .error (.unassignedOpcode 0x04) ∧ decode 0x000000FF = .error (.unassignedOpcode 0xFF) ∧
    decode 0x00000100 = .error (.bitOutsideFormat 0x00) ∧ decode 0x00001A02 = .error (.bitOutsideFormat 0x02) ∧
    decode 0x00000520 = .error (.bitOutsideFormat 0x20) ∧ decode 0x00000821 = .error (.bitOutsideFormat 0x21) ∧
    decode 0x01000022 = .error (.bitOutsideFormat 0x22) ∧ decode 0x00000721 = .error (.reservedTable 7) := by decide

/-- The encodings written out in 30_encoding.md R98. -/
theorem test_encode_examples :
    encode (.encrypt 10) = 0x00000A02 ∧ encode (.gfMul 0x57 0x83) = 0x83570020 ∧
    assembleGfTbl 9 0x57 = some (.gfTbl 2 0x57) ∧ encode (.gfTbl 2 0x57) = 0x00570221 ∧
    assembleGfTbl 4 0x57 = none := by decide

/-! Commands -/

/-- The outcome's state, or the reset state where there is none. -/
def after : Host.Outcome State Fault Refusal → State
  | .next t => t
  | .fault _ => State.reset
  | .refused _ => State.reset

/-- A core whose DATA is the block 00 01 .. 0F of 95_test_vectors.md V20. -/
def countCore : State := { State.reset with data := #v[0x00010203, 0x04050607, 0x08090A0B, 0x0C0D0E0F] }

/-- The schedule of 95_test_vectors.md V10. -/
def v10 : List Word :=
  [0x2b7e1516, 0x28aed2a6, 0xabf71588, 0x09cf4f3c, 0xa0fafe17, 0x88542cb1, 0x23a33939, 0x2a6c7605] ++
  [0xf2c295f2, 0x7a96b943, 0x5935807a, 0x7359f67f, 0x3d80477d, 0x4716fe3e, 0x1e237e44, 0x6d7a883b] ++
  [0xef44a541, 0xa8525b7f, 0xb671253b, 0xdb0bad00, 0xd4d1c6f8, 0x7c839d87, 0xcaf2b8bc, 0x11f915bc] ++
  [0x6d88a37a, 0x110b3efd, 0xdbf98641, 0xca0093fd, 0x4e54f70e, 0x5f5fc9f3, 0x84a64fb2, 0x4ea6dc4f] ++
  [0xead27321, 0xb58dbad2, 0x312bf560, 0x7f8d292f, 0xac7766f3, 0x19fadc21, 0x28d12941, 0x575c006e] ++
  [0xd014f9a8, 0xc9ee2589, 0xe13f0cc8, 0xb6630ca6]

/-- A core with the key and block of 95_test_vectors.md V1 and BLKLEN and KEYLEN 16, before EXPAND_KEY. -/
def v1Core : State :=
  { State.reset with
    key := #v[0x2b7e1516, 0x28aed2a6, 0xabf71588, 0x09cf4f3c, 0, 0, 0, 0]
    data := #v[0x3243f6a8, 0x885a308d, 0x313198a2, 0xe0370734]
    keylen := 16
    blklen := 16 }

/-- The same core holding the schedule. -/
def v1Expanded : State := { v1Core with rkram := Vector.ofFn fun i => v10.getD i.val 0, swords := 44 }

theorem test_nop_clears_err : (after (exec .nop { v1Core with err := .scheduleMismatch })) = v1Core := by decide

/-- V10, V13. -/
theorem test_expandKey_128 : exec .expandKey v1Core = .next v1Expanded := by
  have h : (after (exec .expandKey v1Core)) = v1Expanded := by decide +kernel
  exact congrArg Host.Outcome.next h
theorem test_expandKey_last_words_192_256 :
    (after (exec .expandKey { State.reset with keylen := 24 })).rkram[51] = 0x984c5970 ∧
    (after (exec .expandKey { State.reset with keylen := 32 })).rkram[59] = 0xcb706385 := by decide +kernel

/-- V1, V6. -/
theorem test_encrypt_known_answer :
    (after (exec (.encrypt 10) v1Expanded)).data = #v[0x3925841d, 0x02dc09fb, 0xdc118597, 0x196a0b32] := by
  decide +kernel
theorem test_encrypt_block_length_first :
    (after (exec (.encrypt 12) { v1Expanded with blklen := 15 })).err = .invalidBlockLength := by decide

/-- V3, V23. -/
theorem test_decrypt_known_answer :
    (after (exec (.decrypt 10)
      { v1Expanded with data := #v[0x3925841d, 0x02dc09fb, 0xdc118597, 0x196a0b32] })).data = v1Core.data := by
  decide +kernel
theorem test_decrypt_schedule_mismatch : (after (exec (.decrypt 15) v1Expanded)).err = .scheduleMismatch := by decide

/-- V20. -/
theorem test_subBytes : (after (exec .subBytes countCore)).data = #v[0x637c777b, 0xf26b6fc5, 0x3001672b, 0xfed7ab76] := by
  decide +kernel
theorem test_shiftRows : (after (exec .shiftRows countCore)).data = #v[0x00050a0f, 0x04090e03, 0x080d0207, 0x0c01060b] := by
  decide +kernel
theorem test_mixColumns : (after (exec .mixColumns countCore)).data = #v[0x02070005, 0x06030401, 0x0a0f080d, 0x0e0b0c09] := by
  decide +kernel
theorem test_invSubBytes : (after (exec .invSubBytes countCore)).data = #v[0x52096ad5, 0x3036a538, 0xbf40a39e, 0x81f3d7fb] := by
  decide +kernel
theorem test_invShiftRows : (after (exec .invShiftRows countCore)).data = #v[0x000d0a07, 0x04010e0b, 0x0805020f, 0x0c090603] := by
  decide +kernel
theorem test_invMixColumns : (after (exec .invMixColumns countCore)).data = #v[0x0a0f080d, 0x0e0b0c09, 0x02070005, 0x06030401] := by
  decide +kernel
theorem test_addRoundKey_last :
    (after (exec (.addRoundKey 10) { v1Expanded with data := countCore.data })).data =
      #v[0xd015fbab, 0xcdeb238e, 0xe93606c3, 0xba6e02a9] := by decide +kernel
theorem test_addRoundKey_out_of_range : (after (exec (.addRoundKey 11) v1Expanded)).err = .scheduleMismatch := by decide

/-- V21: single columns. -/
theorem test_mixColumns_columns :
    mixColumns #v[0xdb135345, 0xf20a225c, 0xd4d4d4d5, 0x2d26314c] = #v[0x8e4da1bc, 0x9fdc589d, 0xd5d5d7d6, 0x4d7ebdf8] := by
  decide +kernel
theorem test_invMixColumns_columns :
    invMixColumns #v[0xdb135345, 0xf20a225c, 0xd4d4d4d5, 0x01000000] = #v[0x32a41d55, 0xaec36982, 0xddd9dfda, 0x0e090d0b] := by
  decide +kernel

/-- V9, V17, V18, V19. -/
theorem test_gfMul : (after (exec (.gfMul 0x57 0x83) State.reset)).result = 0xC1 := by decide
theorem test_gfMul_reduces : (after (exec (.gfMul 0xFF 0xFF) State.reset)).result = 0x13 := by decide
theorem test_gfTbl : (after (exec (.gfTbl 2 0x57) State.reset)).result = 0xD9 := by decide
theorem test_gfTbl_last : (after (exec (.gfTbl 5 0xFF) State.reset)).result = 0x8D := by decide
theorem test_subByte : (after (exec (.subByte 0x53) State.reset)).result = 0xED := by decide
theorem test_subByte_last : (after (exec (.subByte 0xFF) State.reset)).result = 0x16 := by decide
theorem test_invSubByte : (after (exec (.invSubByte 0xED) State.reset)).result = 0x53 := by decide
theorem test_invSubByte_zero : (after (exec (.invSubByte 0x00) State.reset)).result = 0x52 := by decide
theorem test_rcon : (after (exec (.rcon 9) State.reset)).result = 0x36 := by decide
theorem test_rcon_last : (after (exec (.rcon 15) State.reset)).result = 0x2F := by decide

/-! The port and the step -/

/-- V25: CFG keeps its two fields. -/
theorem test_cfg_readback : regValue (portWrite 3 0xFFFFFFFF State.reset) .cfg = 0x00001F3F := by decide
/-- V25, R20: KEY7 is at 0x03C and DATA3 at 0x04C. -/
theorem test_key7_data3_offsets :
    indexOfOffset 0x03C = some 15 ∧ regValue (portWrite 15 0xCAFEF00D State.reset) (.key 7) = 0xCAFEF00D ∧
    indexOfOffset 0x04C = some 19 ∧ regValue (portWrite 19 0x01020304 State.reset) (.data 3) = 0x01020304 := by decide
/-- P1: RK43 is the last held word, RK44 reads 0. -/
theorem test_rk_window :
    indexOfOffset 0x1AC = some 107 ∧ (portRead 107 v1Expanded).1 = 0xb6630ca6 ∧
    indexOfOffset 0x1B0 = some 108 ∧ (portRead 108 v1Expanded).1 = 0 := by
  decide +kernel
/-- V26: STATUS with a command pending. -/
theorem test_status_busy : statusWord { v1Expanded with pend := some 0x00000A02 } = 0x00002C01 := by decide +kernel
/-- R99, R62: the expansion of `wr4 KEY0` on the first 8 bytes of the key of V1, and of `run`. -/
theorem test_host_syntax :
    wr4 0x020 [0x2b, 0x7e, 0x15, 0x16, 0x28, 0xae, 0xd2, 0xa6] = some [.write 8 0x2b7e1516, .write 9 0x28aed2a6] ∧
    run (.encrypt 10) = [.write 2 0x00000A02, .wait] := by decide
/-- R60, 93 U5: offsets that name no register. -/
theorem test_host_syntax_refuses :
    wr 0x041 0 = none ∧ rd 0x200 = none ∧ wr 0x1FC 0 = some (.write 127 0) ∧ wr4 0x1FC [0, 0, 0, 0, 0, 0, 0, 0] = none := by
  decide

/-- A placed word runs at the next step: GF_MUL 0x57, 0x83 of V9. -/
theorem test_placed_word_runs :
    after (step (State.reset.withFetchWord 32 0x83570020)) = { State.reset with result := 0xC1 } := by decide +kernel
/-- V23: an illegal word changes ERR alone. -/
theorem test_illegal_word_step :
    after (step (v1Core.withFetchWord 32 0x00000621)) = { v1Core with err := .illegalCommand } := by decide +kernel
/-- P6: a write that comes while BUSY = 1 is dropped. -/
theorem test_write_while_busy_dropped :
    (after (step { v1Core with pend := some 0x00000A02, latency := 1, host := [.write 16 0xDEADBEEF] })).data = v1Core.data := by
  decide

/-! Witnesses: for each statement with hypotheses, a state and operands that meet all of them. -/

/-- A core with `cw` pending, ready to complete. -/
def readyCore (cw : Word) : State := { v1Core with pend := some cw }
/-- A core with ENCRYPT 10 pending for `n` more steps, and one host access to make. -/
def busyCore (n : Nat) (op : HostOp) : State := { v1Core with pend := some 0x00000A02, latency := n, host := [op] }
/-- An idle core and one host access to make. -/
def idleCore (op : HostOp) : State := { v1Core with host := [op] }
/-- A core in reset and one host access to make. -/
def resetCore (op : HostOp) : State := { State.reset with rstN := false, host := [op] }

theorem witness_DecodeOfEncodeIsTheCommand : WellFormed (.gfTbl 5 0xFF) ∧ WellFormed (.encrypt 15) := by decide
theorem witness_DecodedWordIsTheEncoding : decode 0x00FF0521 = .ok (.gfTbl 5 0xFF) := by decide
theorem witness_IllegalWordsAndOnlyTheyRaiseIllegalCommand :
    (Ready (readyCore 0x00000025) 0x00000025 ∧ IllegalWord 0x00000025) ∧
    (Ready (readyCore 0x00001A02) 0x00001A02 ∧ IllegalWord 0x00001A02) ∧
    (Ready (readyCore 0x00000621) 0x00000621 ∧ IllegalWord 0x00000621) ∧
    (Ready (readyCore 0x00000521) 0x00000521 ∧ ¬ IllegalWord 0x00000521) := by decide
theorem witness_StepRunsTheDecodedCommand :
    Ready (readyCore 0x00000A02) 0x00000A02 ∧ decode 0x00000A02 = .ok (.encrypt 10) := by decide
theorem witness_PlacedWordRunsAtTheNextStep : decodeTableWord 32 0x00000F24 = some (.rcon 15) := by decide
theorem witness_PendingCommandCompletesFromHeldRegisters :
    NoReset (busyCore 2 (.write 16 1)) ∧ (busyCore 2 (.write 16 1)).pend = some 0x00000A02 := by
  refine ⟨⟨rfl, fun level h => ?_⟩, rfl⟩
  simp [busyCore] at h
theorem witness_IdleCoreHoldsAllState : v1Core.rstN = true ∧ Ended v1Core := by decide
theorem witness_NopWritesOnlyErr :
    ((0 : Word).setWidth 8 = 0x00#8) ∧ ((0x00000100 : Word).setWidth 8 = 0x00#8 ∧ (0x00000100 : Word) ≠ 0) := by decide
theorem witness_GfMulFieldLaws :
    ((0x53 : Byte) ≠ 0 ∧ gfMul 0x53 0xCA = 1) ∧ gfMul 0x00 0xFF = 0 := by decide
theorem witness_GfTblReservedSelectorsAreIllegal : ((6 : BitVec 3) = 6 ∨ (6 : BitVec 3) = 7) ∧ ((7 : BitVec 3) = 6 ∨ (7 : BitVec 3) = 7) := by
  decide
theorem witness_GfTblByConstantMultipliesByIt : 2 ∈ [2, 3, 9, 11, 13, 14] ∧ 14 ∈ [2, 3, 9, 11, 13, 14] ∧ 4 ∉ [2, 3, 9, 11, 13, 14] := by
  decide
theorem witness_SubByteIsAffineImageOfInverse : gfMul 0x53 0xCA = 1 ∧ (0x53 : Byte) ≠ 0 := by decide
theorem witness_RconDoublesFromOne : (14 : BitVec 4) ≠ 15 := by decide
theorem witness_ExpandKeyWritesTheSchedule_lengths :
    v1Core.keylen = 16 ∧ ({ v1Core with keylen := 24 } : State).keylen = 24 ∧ ({ v1Core with keylen := 32 } : State).keylen = 32 := by
  decide
/-- The clauses of the statement at the ends of their ranges, for Nk = 4: word 3 from the key, words 4 and 43 from the
recurrence (word 4 from words 3 and 0, word 43 from 42 and 39), word 44 kept. -/
theorem witness_ExpandKeyWritesTheSchedule_words :
    ((3 : Fin 60).val = (3 : Fin 8).val ∧ (3 : Fin 8).val < 4) ∧
    (4 ≤ (4 : Fin 60).val ∧ (4 : Fin 60).val < 4 * (4 + 7) ∧ (3 : Fin 60).val = (4 : Fin 60).val - 1 ∧
      (0 : Fin 60).val = (4 : Fin 60).val - 4) ∧
    (4 ≤ (43 : Fin 60).val ∧ (43 : Fin 60).val < 4 * (4 + 7) ∧ (42 : Fin 60).val = (43 : Fin 60).val - 1 ∧
      (39 : Fin 60).val = (43 : Fin 60).val - 4) ∧
    4 * (4 + 7) ≤ (44 : Fin 60).val := by decide
theorem witness_ExpandKeyRefusesOtherKeyLengths :
    (15 : BitVec 6) ≠ 16 ∧ (15 : BitVec 6) ≠ 24 ∧ (15 : BitVec 6) ≠ 32 ∧ State.reset.keylen ≠ 16 ∧
    State.reset.keylen ≠ 24 ∧ State.reset.keylen ≠ 32 := by decide
theorem witness_ExpandKeyReadsOnlyTheDeclaredKey :
    (∀ k : Fin 8, 4 * k.val < v1Core.keylen.toNat → v1Core.key[k] = (v1Core.key.set 4 0xFFFFFFFF)[k]) ∧
    v1Core.key ≠ v1Core.key.set 4 0xFFFFFFFF := by decide
theorem witness_ShiftRowsStepOnData :
    (0 : Fin 4).val = ((3 : Fin 4).val + (1 : Fin 4).val) % 4 ∧
    (11 : Fin 16).val = ((15 : Fin 16).val + 4 * ((15 : Fin 16).val % 4)) % 16 := by decide
theorem witness_MixColumnsStepOnData :
    stateByte countCore.data 0 3 = 0x0C ∧ stateByte countCore.data 1 3 = 0x0D ∧ stateByte countCore.data 2 3 = 0x0E ∧
    stateByte countCore.data 3 3 = 0x0F := by decide
theorem witness_AddRoundKeyStepOnData :
    4 * (10 : BitVec 4).toNat + 3 < v1Expanded.swords.toNat ∧ (43 : Fin 60).val = 4 * (10 : BitVec 4).toNat + (3 : Fin 4).val := by
  decide
theorem witness_InvShiftRowsStepOnData :
    ((3 : Fin 4).val + (1 : Fin 4).val) % 4 = (0 : Fin 4).val ∧
    ((3 : Fin 16).val + 4 * ((15 : Fin 16).val % 4)) % 16 = (15 : Fin 16).val := by decide
theorem witness_InvMixColumnsStepOnData :
    stateByte countCore.data 0 0 = 0x00 ∧ stateByte countCore.data 1 0 = 0x01 ∧ stateByte countCore.data 2 0 = 0x02 ∧
    stateByte countCore.data 3 0 = 0x03 := by decide
theorem witness_EncryptIsItsRoundSteps :
    v1Expanded.blklen = 16 ∧ v1Expanded.swords.toNat = 4 * ((10 : BitVec 4).toNat + 1) := by decide
theorem witness_DecryptIsItsRoundSteps :
    ({ v1Expanded with swords := 60 } : State).blklen = 16 ∧
    ({ v1Expanded with swords := 60 } : State).swords.toNat = 4 * ((14 : BitVec 4).toNat + 1) := by decide
theorem witness_EncryptAndDecryptAreMutualInverses :
    ({ v1Expanded with swords := 52 } : State).blklen = 16 ∧
    ({ v1Expanded with swords := 52 } : State).swords.toNat = 4 * ((12 : BitVec 4).toNat + 1) := by decide
theorem witness_BlockLengthIsCheckedFirst : ({ v1Expanded with blklen := 15 } : State).blklen ≠ 16 ∧ State.reset.blklen ≠ 16 := by
  decide
theorem witness_ScheduleMismatchExactlyWhereNotHeld :
    v1Expanded.blklen = 16 ∧ v1Expanded.swords.toNat ≠ 4 * ((12 : BitVec 4).toNat + 1) ∧
    v1Expanded.swords.toNat ≤ 4 * (11 : BitVec 4).toNat + 3 := by decide
theorem witness_FailingCommandWritesOnlyErr :
    execute 0x00000C02 v1Expanded = .next { v1Expanded with err := .scheduleMismatch } ∧ ErrCode.scheduleMismatch ≠ .ok :=
  ⟨rfl, by decide⟩
theorem witness_CommandsWriteOnlyTheirRegisters :
    exec (.rcon 1) v1Core = .next { v1Core with result := 0x02 } ∧ ({ v1Core with result := 0x02 } : State).result ≠ v1Core.result :=
  ⟨rfl, by decide⟩
theorem witness_CommandsWriteOnlyTheirRegisters_schedule :
    exec .expandKey v1Core = .next v1Expanded ∧ v1Expanded.swords ≠ v1Core.swords := ⟨test_expandKey_128, by decide⟩
theorem witness_CommandsWriteOnlyTheirRegisters_data :
    exec .subBytes countCore = .next { countCore with data := subBytes countCore.data } ∧
    subBytes countCore.data ≠ countCore.data := ⟨rfl, by decide +kernel⟩
theorem witness_ErrorCodesHaveExactlyTheirCauses :
    execute 0x00000001 State.reset = .next { State.reset with err := .invalidKeyLength } ∧
    execute 0x00000A02 State.reset = .next { State.reset with err := .invalidBlockLength } ∧
    execute 0x00000013 State.reset = .next { State.reset with err := .scheduleMismatch } ∧
    execute 0x00000004 State.reset = .next { State.reset with err := .illegalCommand } := ⟨rfl, rfl, rfl, rfl⟩
theorem witness_CmdWriteIsAcceptedOnlyWhileIdle :
    ((idleCore (.write 2 1)).rstN = true ∧ (idleCore (.write 2 1)).host = .write 2 1 :: [] ∧ (idleCore (.write 2 1)).pend = none) ∧
    ((busyCore 1 (.write 2 1)).rstN = true ∧ (busyCore 1 (.write 2 1)).host = .write 2 1 :: [] ∧
      (busyCore 1 (.write 2 1)).pend = some 0x00000A02 ∧ (busyCore 1 (.write 2 1)).latency = 0 + 1) := by decide
theorem witness_WritesWhileBusyAreDropped :
    (busyCore 1 (.write 127 1)).rstN = true ∧ (busyCore 1 (.write 127 1)).pend = some 0x00000A02 ∧
    (busyCore 1 (.write 127 1)).latency = 0 + 1 ∧ (busyCore 1 (.write 127 1)).host = .write 127 1 :: [] := by decide
/-- CFG, KEY0, KEY7, DATA0 and DATA3 at their offsets. -/
theorem witness_IdleWritesStoreIntoCfgKeyData :
    ((idleCore (.write 3 1)).rstN = true ∧ (idleCore (.write 3 1)).pend = none ∧ (idleCore (.write 3 1)).host = .write 3 1 :: []) ∧
    4 * (3 : BitVec 7).toNat = 0x00C ∧ 4 * (8 : BitVec 7).toNat = 0x020 + 4 * (0 : Fin 8).val ∧
    4 * (15 : BitVec 7).toNat = 0x020 + 4 * (7 : Fin 8).val ∧ 4 * (16 : BitVec 7).toNat = 0x040 + 4 * (0 : Fin 4).val ∧
    4 * (19 : BitVec 7).toNat = 0x040 + 4 * (3 : Fin 4).val := by decide
theorem witness_WritesToReadOnlyRegistersAreIgnored :
    ((idleCore (.write 4 1)).rstN = true ∧ (idleCore (.write 4 1)).pend = none ∧ (idleCore (.write 4 1)).host = .write 4 1 :: []) ∧
    4 * (0 : BitVec 7).toNat = 0x000 ∧ 4 * (1 : BitVec 7).toNat = 0x004 ∧ 4 * (4 : BitVec 7).toNat = 0x010 ∧
    4 * (64 : BitVec 7).toNat = 0x100 + 4 * (0 : Fin 60).val ∧ 4 * (123 : BitVec 7).toNat = 0x100 + 4 * (59 : Fin 60).val ∧
    4 * (3 : BitVec 7).toNat = 0x00C := by decide
/-- The reserved ranges at both ends, on an idle and on a busy core, for a read and for a write. -/
theorem witness_ReservedOffsetsReadZeroIgnoreWrites :
    (4 * (5 : BitVec 7).toNat = 0x014 ∧ 4 * (7 : BitVec 7).toNat = 0x01C ∧ 4 * (20 : BitVec 7).toNat = 0x050 ∧
      4 * (63 : BitVec 7).toNat = 0x0FC ∧ 4 * (124 : BitVec 7).toNat = 0x1F0) ∧
    ((idleCore (.read 5)).rstN = true ∧ (idleCore (.read 5)).pend = none ∧ (idleCore (.read 5)).host = .read 5 :: []) ∧
    ((busyCore 1 (.write 124 1)).rstN = true ∧ 0 < (busyCore 1 (.write 124 1)).latency ∧
      (busyCore 1 (.write 124 1)).host = .write 124 1 :: []) := by decide
theorem witness_IdleReadsReturnTheRegisters :
    ((idleCore (.read 1)).rstN = true ∧ (idleCore (.read 1)).pend = none ∧ (idleCore (.read 1)).host = .read 1 :: []) ∧
    4 * (0 : BitVec 7).toNat = 0x000 ∧ 4 * (1 : BitVec 7).toNat = 0x004 ∧ 4 * (2 : BitVec 7).toNat = 0x008 ∧
    4 * (3 : BitVec 7).toNat = 0x00C ∧ 4 * (4 : BitVec 7).toNat = 0x010 ∧
    4 * (15 : BitVec 7).toNat = 0x020 + 4 * (7 : Fin 8).val ∧ 4 * (19 : BitVec 7).toNat = 0x040 + 4 * (3 : Fin 4).val ∧
    4 * (123 : BitVec 7).toNat = 0x100 + 4 * (59 : Fin 60).val := by decide
theorem witness_BusyReads :
    ((busyCore 1 (.read 19)).rstN = true ∧ (busyCore 1 (.read 19)).pend = some 0x00000A02 ∧
      (busyCore 1 (.read 19)).latency = 0 + 1 ∧ (busyCore 1 (.read 19)).host = .read 19 :: []) ∧
    (4 * (124 : BitVec 7).toNat ≠ 0x010 ∧ (∀ c : Fin 4, 4 * (124 : BitVec 7).toNat ≠ 0x040 + 4 * c.val) ∧
      ∀ i : Fin 60, 4 * (124 : BitVec 7).toNat ≠ 0x100 + 4 * i.val) ∧
    4 * (0 : BitVec 7).toNat = 0x000 ∧ 4 * (1 : BitVec 7).toNat = 0x004 ∧ 4 * (2 : BitVec 7).toNat = 0x008 ∧
    4 * (3 : BitVec 7).toNat = 0x00C ∧ 4 * (15 : BitVec 7).toNat = 0x020 + 4 * (7 : Fin 8).val ∧
    4 * (4 : BitVec 7).toNat = 0x010 ∧ 4 * (19 : BitVec 7).toNat = 0x040 + 4 * (3 : Fin 4).val ∧
    4 * (64 : BitVec 7).toNat = 0x100 + 4 * (0 : Fin 60).val := by decide
theorem witness_WaitEndsWhenNotBusy :
    ((idleCore .wait).rstN = true ∧ (idleCore .wait).host = .wait :: [] ∧ (idleCore .wait).pend = none) ∧
    ((busyCore 1 .wait).rstN = true ∧ (busyCore 1 .wait).host = .wait :: [] ∧ (busyCore 1 .wait).pend = some 0x00000A02 ∧
      (busyCore 1 .wait).latency = 0 + 1) := by decide
theorem witness_ResetAbandonsThePendingCommand :
    (busyCore 1 (.setRst false)).rstN = true ∧ (busyCore 1 (.setRst false)).pend = some 0x00000A02 ∧
    (busyCore 1 (.setRst false)).latency = 0 + 1 ∧ (busyCore 1 (.setRst false)).host = .setRst false :: [] := by decide
theorem witness_ResetHoldsAndReleases :
    ((idleCore (.setRst false)).rstN = true ∧ (idleCore (.setRst false)).pend = none ∧
      (idleCore (.setRst false)).host = .setRst false :: []) ∧
    (({ State.reset with rstN := false } : State).rstN = false ∧ ({ State.reset with rstN := false } : State).host = []) ∧
    ((resetCore (.setRst true)).rstN = false ∧ (resetCore (.setRst true)).host = .setRst true :: []) := by decide
theorem witness_AccessInResetIsStuck :
    (resetCore (.read 0)).rstN = false ∧ (resetCore (.read 0)).host = .read 0 :: [] ∧
    ∀ level, HostOp.read 0 ≠ .setRst level := ⟨rfl, rfl, nofun⟩
theorem witness_EveryStepKeepsInv :
    (idleCore (.write 3 0x00001010)).Inv ∧
    step (idleCore (.write 3 0x00001010)) = .next { idleCore .wait with host := [] } :=
  ⟨⟨by decide, fun _ => rfl, fun h => by cases h⟩, rfl⟩
theorem witness_EveryStepKeepsInv_busy :
    (readyCore 0x00000A02).Inv ∧ step (readyCore 0x00000A02) = .next { v1Core with err := .scheduleMismatch } :=
  ⟨⟨by decide, fun _ => rfl, fun h => by cases h⟩, rfl⟩
theorem witness_EveryStepKeepsInv_reset :
    (resetCore (.setRst true)).Inv ∧ step (resetCore (.setRst true)) = .next State.reset :=
  ⟨⟨by decide, fun _ => rfl, fun _ => ⟨by decide, by decide, rfl, rfl, rfl, rfl, rfl, rfl⟩⟩, rfl⟩
theorem witness_HeldScheduleStaysAnExpansion :
    HoldsExpandedKey v1Expanded ∧ step v1Expanded = .next v1Expanded := by
  refine ⟨.inr ⟨4, [0x2b7e1516, 0x28aed2a6, 0xabf71588, 0x09cf4f3c], .inl rfl, rfl, rfl, ?_⟩, rfl⟩
  decide +kernel
theorem witness_OnlyExpandKeyAndResetChangeTheSchedule :
    step (readyCore 0x00000010) = .next { v1Core with data := subBytes v1Core.data } := rfl
theorem witness_BusyChangesOnlyByAcceptanceCompletionReset :
    step (readyCore 0x00000000) = .next v1Core ∧ (readyCore 0x00000000).pend = some 0x00000000 := ⟨rfl, rfl⟩
theorem witness_BusyChangesOnlyByAcceptanceCompletionReset_accept :
    ∃ t, step (idleCore (.write 2 1)) = .next t ∧ (idleCore (.write 2 1)).pend = none ∧ t.pend ≠ none :=
  ⟨_, rfl, rfl, nofun⟩
theorem witness_OnlyCompletionAndResetWriteErr :
    step (readyCore 0x00000004) = .next { v1Core with err := .illegalCommand } ∧ ErrCode.illegalCommand ≠ v1Core.err :=
  ⟨rfl, by decide⟩
theorem witness_HiddenRoundKeyWordsInfluenceNothing :
    SameVisible v1Expanded { v1Expanded with rkram := v1Expanded.rkram.set 44 0xFFFFFFFF } ∧
    v1Expanded.rkram ≠ v1Expanded.rkram.set 44 0xFFFFFFFF := by
  refine ⟨⟨rfl, ?_⟩, ?_⟩ <;> decide +kernel
theorem witness_ObservationHidesRoundKeyWords :
    SameVisible State.reset { State.reset with rkram := State.reset.rkram.set 0 1 } ∧
    State.reset.rkram ≠ State.reset.rkram.set 0 1 := by
  refine ⟨⟨rfl, ?_⟩, ?_⟩ <;> decide +kernel
theorem witness_CoresShareNothing :
    stepAt 1 [v1Core, readyCore 0x00000000] = .next [v1Core, v1Core] ∧ (0 : Nat) ≠ 1 := ⟨rfl, by decide⟩
theorem witness_BusWindowsSelectOneRegister : 0 < 3 ∧ 3 < 4 ∧ (1 : Nat) ≠ 2 := by decide
/-- Both clauses at the ends of their ranges: k = 8 for KEY, k = 4 for DATA. -/
theorem witness_StringWriteLoadsKeyAndBlockBytes :
    (v1Core.rstN = true ∧ v1Core.pend = none) ∧
    ((List.replicate 32 (0xA5 : Byte)).length = 4 * 8 ∧ 8 ≤ 8) ∧ ((List.replicate 16 (0xA5 : Byte)).length = 4 * 4 ∧ 4 ≤ 4) := by
  decide

end Sys2Proof.Tests
end

section
/-! SUPPORT. What a step can do, case by case, with the fields each case writes. -/

namespace Sys2Proof.Machine

/-! What a command leaves unchanged -/

/-- A command writes DATA, RESULT, ERR, SWORDS and RKRAM at most (10_state.md R36). -/
theorem exec_frame {i : Instr} {s t : State} (h : exec i s = .next t) :
    t = { s with data := t.data, result := t.result, err := t.err, swords := t.swords, rkram := t.rkram } := by
  rcases exec_inversion h with ⟨e, -, rfl⟩ | rfl | ⟨d, rfl⟩ | ⟨b, rfl⟩ | ⟨nk, -, -, rfl⟩ <;> rfl

/-- A command keeps the schedule, or is EXPAND_KEY with a legal key length and writes the expansion of the key
(43_key_schedule.md R174, R176). -/
theorem exec_schedule {i : Instr} {s t : State} (h : exec i s = .next t) :
    (t.swords = s.swords ∧ t.rkram = s.rkram) ∨
    ∃ nk, i = .expandKey ∧ keyWords s.keylen = some nk ∧
      t = (s.setSchedule (keyExpansion nk (heldKey nk s))).setErr .ok := by
  rcases exec_inversion h with ⟨e, -, rfl⟩ | rfl | ⟨d, rfl⟩ | ⟨b, rfl⟩ | h
  · exact .inl ⟨rfl, rfl⟩
  · exact .inl ⟨rfl, rfl⟩
  · exact .inl ⟨rfl, rfl⟩
  · exact .inl ⟨rfl, rfl⟩
  · exact .inr h

/-- Execution of a word writes ERR alone, or is the command that the word decodes to (40_command_control.md R112, R113). -/
theorem execute_inversion {cw : Word} {s t : State} (h : execute cw s = .next t) :
    t = s.setErr .illegalCommand ∨ ∃ i, decode cw = .ok i ∧ exec i s = .next t := by
  unfold execute at h
  split at h
  · rename_i i hi
    exact .inr ⟨i, hi, h⟩
  · cases h; exact .inl rfl

/-- The frame of a command word is that of the commands. -/
theorem execute_frame {cw : Word} {s t : State} (h : execute cw s = .next t) :
    t = { s with data := t.data, result := t.result, err := t.err, swords := t.swords, rkram := t.rkram } := by
  rcases execute_inversion h with rfl | ⟨i, -, hi⟩
  · rfl
  · exact exec_frame hi

/-- A command word keeps the schedule or writes the expansion of the key (43_key_schedule.md R176). -/
theorem execute_schedule {cw : Word} {s t : State} (h : execute cw s = .next t) :
    (t.swords = s.swords ∧ t.rkram = s.rkram) ∨
    ∃ nk, keyWords s.keylen = some nk ∧ t = (s.setSchedule (keyExpansion nk (heldKey nk s))).setErr .ok := by
  rcases execute_inversion h with rfl | ⟨i, -, hi⟩
  · exact .inl ⟨rfl, rfl⟩
  · rcases exec_schedule hi with h' | ⟨nk, -, hk, ht⟩
    · exact .inl h'
    · exact .inr ⟨nk, hk, ht⟩

/-! The variants of the key schedule -/

/-- A legal key length gives one of the three variants (00_scope.md R8). -/
theorem keyWords_variant {k : BitVec 6} {nk : Nat} (h : keyWords k = some nk) : nk = 4 ∨ nk = 6 ∨ nk = 8 := by
  rcases keyWords_eq_some.1 h with ⟨-, rfl⟩ | ⟨-, rfl⟩ | ⟨-, rfl⟩ <;> decide

/-- The schedule of the held key has 4(Nk+7) words (43_key_schedule.md R172). -/
theorem length_keyExpansion_heldKey {nk : Nat} (h : nk ≤ 8) (s : State) :
    (keyExpansion nk (heldKey nk s)).length = 4 * (nk + 7) :=
  length_keyExpansion (length_heldKey h s) h

/-! The cases of a step -/

/-- What a step from `s` to `t` did: reset the core or held it reset; completed the pending command; accepted a CMD write;
or moved the host's side, with at most a store into KEY, DATA and CFG. -/
inductive StepCase (s t : State) : Prop where
  | inReset (hrst : s.rstN = false ∨ t.rstN = false) (hvalues : AtResetValues t) (hlatency : t.latency = 0)
  | completed (cw : Word) (u : State) (hready : Ready s cw) (hexec : execute cw s = .next u) (ht : t = u.retire)
  | accepted (v : Word) (rest : List HostOp) (hrst : s.rstN = true) (hidle : s.pend = none)
      (hhost : s.host = .write 2 v :: rest) (ht : t = (s.accept v).setHost rest)
  | moved (hrst : s.rstN = true) (hnotReady : ∀ cw, ¬ Ready s cw) (hrstN : t.rstN = s.rstN) (hpend : t.pend = s.pend)
      (hidle : s.pend = none → t.latency = s.latency) (herr : t.err = s.err) (hswords : t.swords = s.swords)
      (hrkram : t.rkram = s.rkram)

/-- Driving the pin from a core held reset leaves it at its reset values (70_reset_and_hazards.md R280). -/
theorem drivenPin_atResetValues (s : State) (level : Bool) (rest : List HostOp) :
    AtResetValues ((s.holdReset.setRstN level).setHost rest) :=
  holdReset_atResetValues { s with rstN := level, host := rest }

/-- Every step is one of the cases. -/
theorem stepCase_of_step {s t : State} (h : step s = .next t) : StepCase s t := by
  rcases step_inversion h with ⟨hr, -, rfl⟩ | ⟨hr, level, rest, -, rfl⟩ | ⟨cw, u, hready, hu, ht⟩ |
    ⟨cw, n, hr, hp, hl, rfl⟩ | ⟨hr, hp, rfl⟩
  · exact .inReset (.inl hr) (holdReset_atResetValues s) rfl
  · exact .inReset (.inl hr) (drivenPin_atResetValues s level rest) rfl
  · exact .completed cw u hready hu ht
  · have hnot : ∀ cw, ¬ Ready s cw := fun _ ⟨_, _, h0⟩ => by rw [hl] at h0; cases h0
    have hbusy : (s.setLatency n).busy = true := busy_eq_true.2 ⟨cw, hp⟩
    rcases hostTurn_busy hbusy with ⟨ops, d, rs, ht⟩ | ⟨rest, -, ht⟩ <;> rw [ht]
    · exact .moved hr hnot rfl rfl (fun h0 => by rw [hp] at h0; cases h0) rfl rfl rfl
    · exact .inReset (.inr rfl) (drivenPin_atResetValues _ false rest) rfl
  · have hnot : ∀ cw, ¬ Ready s cw := fun _ ⟨_, h0, _⟩ => by rw [hp] at h0; cases h0
    rcases hostTurn_idle (busy_eq_false.2 hp) with ⟨k, d, kl, bl, ops, rs, ht⟩ | ⟨v, rest, hh, ht⟩ | ⟨rest, -, ht⟩ <;>
      rw [ht]
    · exact .moved hr hnot rfl rfl (fun _ => rfl) rfl rfl rfl
    · exact .accepted v rest hr hp hh rfl
    · exact .inReset (.inr rfl) (drivenPin_atResetValues s false rest) rfl

end Sys2Proof.Machine
end

section
/-! PROOFS. The invariant, BUSY, ERR and the held schedule along every step (10_state.md R23 to R25, R34). -/

namespace Sys2Proof.Machine

/-- A completed command leaves SWORDS legal (10_state.md R25). -/
theorem execute_swordsLegal {cw : Word} {s t : State} (hs : SwordsLegal s) (h : execute cw s = .next t) :
    SwordsLegal t := by
  rcases execute_schedule h with ⟨hsw, -⟩ | ⟨nk, hk, rfl⟩
  · unfold SwordsLegal; rwa [hsw]
  · have hlen : nk ≤ 8 := by have := keyWords_variant hk; omega
    simp only [SwordsLegal, State.setErr_swords, State.setSchedule_swords, length_keyExpansion_heldKey hlen s]
    rcases keyWords_variant hk with rfl | rfl | rfl <;> decide

/-- Settles O50. -/
theorem invHoldsAtReset : Obligations.InvHoldsAtReset where
  swords_legal := .inl rfl
  idle_latency _ := rfl
  held_in_reset h := by cases h

/-- Settles O51, by the cases of a step: reset gives the reset values, a completion writes a legal SWORDS and leaves the
passed latency, an acceptance leaves a command pending, and every other step keeps what the invariant names. -/
theorem everyStepKeepsInv : Obligations.EveryStepKeepsInv := by
  rintro s t ⟨hsw, hlat, -⟩ hstep
  cases stepCase_of_step hstep with
  | inReset _ hvalues hlatency => exact ⟨.inl hvalues.swords, fun _ => hlatency, fun _ => hvalues⟩
  | completed cw u hready hu ht =>
    subst ht
    obtain ⟨hrst, -, h0⟩ := hready
    have hurst : u.rstN = true := (congrArg State.rstN (execute_frame hu)).trans hrst
    have hulat : u.latency = 0 := (congrArg State.latency (execute_frame hu)).trans h0
    have husw : SwordsLegal u := execute_swordsLegal hsw hu
    exact ⟨husw, fun _ => hulat, fun h => by rw [State.retire_rstN, hurst] at h; cases h⟩
  | accepted v rest hrst _ _ ht =>
    subst ht
    exact ⟨hsw, nofun, fun h => by rw [State.setHost_rstN, State.accept_rstN, hrst] at h; cases h⟩
  | moved hrst _ hrstN hpend hidle _ hswords _ =>
    refine ⟨?_, fun h => ?_, fun h => ?_⟩
    · unfold SwordsLegal; rwa [hswords]
    · rw [hpend] at h; rw [hidle h, hlat h]
    · rw [hrstN, hrst] at h; cases h

/-- Whether a core holds an expanded key depends on SWORDS and RKRAM alone. -/
theorem HoldsExpandedKey.of_eq {s t : State} (hs : HoldsExpandedKey s) (hsw : t.swords = s.swords)
    (hram : t.rkram = s.rkram) : HoldsExpandedKey t := by
  unfold HoldsExpandedKey
  rwa [hsw, hram]

/-- EXPAND_KEY leaves the expansion of the held key (43_key_schedule.md R174). -/
theorem holdsExpandedKey_setSchedule {nk : Nat} {s : State} (hk : keyWords s.keylen = some nk) :
    HoldsExpandedKey ((s.setSchedule (keyExpansion nk (heldKey nk s))).setErr .ok) := by
  have hnk := keyWords_variant hk
  have hlen := length_keyExpansion_heldKey (show nk ≤ 8 by omega) s
  have hsw : (BitVec.ofNat 6 (4 * (nk + 7))).toNat = 4 * (nk + 7) := by
    rw [BitVec.toNat_ofNat, Nat.mod_eq_of_lt (by omega)]
  refine .inr ⟨nk, heldKey nk s, hnk, length_heldKey (by omega) s, ?_, fun i hi => ?_⟩
  · rw [State.setErr_swords, State.setSchedule_swords, hlen, hsw]
  · rw [State.setErr_swords, State.setSchedule_swords, hlen, hsw, ← hlen] at hi
    rw [State.setErr_rkram, Fin.getElem_fin, setSchedule_rkram_getElem, if_pos hi, List.getElem?_eq_getElem hi,
      List.getD_eq_getElem _ _ hi]

/-- Settles O52: reset holds no schedule, a completion keeps the schedule or writes the expansion of the held key, and
no other step writes it. -/
theorem heldScheduleStaysAnExpansion : Obligations.HeldScheduleStaysAnExpansion := by
  refine ⟨.inl rfl, fun s t hs hstep => ?_⟩
  cases stepCase_of_step hstep with
  | inReset _ hvalues _ => exact .inl hvalues.swords
  | completed cw u _ hu ht =>
    subst ht
    rcases execute_schedule hu with ⟨hsw, hram⟩ | ⟨nk, hk, rfl⟩
    · exact hs.of_eq hsw hram
    · exact (holdsExpandedKey_setSchedule hk).of_eq rfl rfl
  | accepted v rest _ _ _ ht => subst ht; exact hs.of_eq rfl rfl
  | moved _ _ _ _ _ _ hswords hrkram => exact hs.of_eq hswords hrkram

/-- Bit 0 of STATUS is BUSY (10_state.md R22, R23). -/
theorem statusWord_busy (s : State) : (statusWord s).getLsbD 0 = s.pend.isSome := by
  simp only [statusWord, BitVec.getLsbD_or, getLsbD_placeField]
  simp [State.busy]

/-- Settles O54, by the cases of a step: only an acceptance makes a command pending, and only its completion or reset
ends it. -/
theorem busyChangesOnlyByAcceptanceCompletionReset : Obligations.BusyChangesOnlyByAcceptanceCompletionReset := by
  intro s t hstep
  refine ⟨statusWord_busy s, ?_⟩
  cases stepCase_of_step hstep with
  | inReset hrst hvalues _ =>
    have hp := hvalues.pend
    exact ⟨fun _ h => absurd hp h, fun _ _ => .inr ⟨hp, .inr hrst⟩, fun _ _ => hp⟩
  | completed cw u hready _ ht =>
    have hp : t.pend = none := by rw [ht, State.retire_pend]
    refine ⟨fun _ h => absurd hp h, fun cw' h => .inr ⟨hp, .inl ?_⟩, fun _ _ => hp⟩
    obtain ⟨hrst, -, h0⟩ := hready
    exact ⟨hrst, h, h0⟩
  | accepted v rest _ hidle hhost ht =>
    subst ht
    refine ⟨fun _ _ => ⟨v, rest, hhost, rfl⟩, fun cw h => ?_, fun cw ⟨_, h, _⟩ => ?_⟩ <;> rw [hidle] at h <;> cases h
  | moved _ hnotReady _ hpend _ _ _ _ =>
    exact ⟨fun h h' => absurd (hpend.trans h) h', fun _ h => .inl (hpend.trans h), fun cw h => absurd h (hnotReady cw)⟩

/-- Settles O55, by the cases of a step: an acceptance and the host's accesses keep ERR. -/
theorem onlyCompletionAndResetWriteErr : Obligations.OnlyCompletionAndResetWriteErr := by
  intro s t hstep hne
  cases stepCase_of_step hstep with
  | inReset hrst _ _ => exact .inr hrst
  | completed cw _ hready _ _ => exact .inl ⟨cw, hready⟩
  | accepted v rest _ _ _ ht => subst ht; exact absurd rfl hne
  | moved _ _ _ _ _ herr _ _ => exact absurd herr hne

end Sys2Proof.Machine
end

section
/-! PROOFS. Round-key words at and above SWORDS influence nothing (10_state.md R32, R33). -/

namespace Sys2Proof.Machine

/-! The pipelines read the round keys 0 to Nr only -/

section
variable {w w' : Vector Word 60} {nr : Nat} (hram : ∀ i, i < 4 * (nr + 1) → ramWord w i = ramWord w' i)
include hram

/-- Adding round key `rnd` reads its four words (44_forward_pipeline.md R193). -/
theorem addRoundKey_congr (d : Block) {rnd : Nat} (hrnd : rnd ≤ nr) : addRoundKey d w rnd = addRoundKey d w' rnd := by
  rw [addRoundKey, hram (4 * rnd) (by omega), hram (4 * rnd + 1) (by omega), hram (4 * rnd + 2) (by omega),
    hram (4 * rnd + 3) (by omega)]
  rfl

/-- The cipher reads the round keys 0 to Nr (44_forward_pipeline.md R194, R195). -/
theorem cipher_congr (d : Block) : cipher w nr d = cipher w' nr d := by
  have hround : ∀ (b : Block), ∀ rnd ∈ List.range' 1 (nr - 1), forwardRound w b rnd = forwardRound w' b rnd := by
    intro b rnd hmem
    have := List.mem_range'_1.1 hmem
    exact addRoundKey_congr hram _ (by omega)
  rw [cipher, cipher, addRoundKey_congr hram d (Nat.zero_le nr), List.foldl_ext _ _ _ hround,
    addRoundKey_congr hram _ (Nat.le_refl nr)]

/-- The inverse cipher reads the round keys 0 to Nr (45_inverse_pipeline.md R223). -/
theorem invCipher_congr (d : Block) : invCipher w nr d = invCipher w' nr d := by
  have hround : ∀ (b : Block), ∀ rnd ∈ (List.range' 1 (nr - 1)).reverse, inverseRound w b rnd = inverseRound w' b rnd := by
    intro b rnd hmem
    have := List.mem_range'_1.1 (List.mem_reverse.1 hmem)
    rw [inverseRound, addRoundKey_congr hram _ (by omega)]
    rfl
  rw [invCipher, invCipher, addRoundKey_congr hram d (Nat.le_refl nr), List.foldl_ext _ _ _ hround,
    addRoundKey_congr hram _ (Nat.zero_le nr)]

end

/-! The relation between states -/

/-- The same core with another content of RKRAM. -/
def State.setRam (s : State) (r : Vector Word 60) : State := { s with rkram := r }

@[simp] theorem State.setRam_keylen (s : State) (r : Vector Word 60) : (s.setRam r).keylen = s.keylen := rfl
@[simp] theorem State.setRam_pend (s : State) (r : Vector Word 60) : (s.setRam r).pend = s.pend := rfl
@[simp] theorem State.setRam_latency (s : State) (r : Vector Word 60) : (s.setRam r).latency = s.latency := rfl
@[simp] theorem State.setRam_rstN (s : State) (r : Vector Word 60) : (s.setRam r).rstN = s.rstN := rfl
@[simp] theorem State.setRam_host (s : State) (r : Vector Word 60) : (s.setRam r).host = s.host := rfl
@[simp] theorem State.setRam_busy (s : State) (r : Vector Word 60) : (s.setRam r).busy = s.busy := rfl

@[simp] theorem cipherCheck_setRam (nr : BitVec 4) (s : State) (r : Vector Word 60) :
    cipherCheck nr (s.setRam r) = cipherCheck nr s := rfl

@[simp] theorem roundKeyCheck_setRam (rnd : BitVec 4) (s : State) (r : Vector Word 60) :
    roundKeyCheck rnd (s.setRam r) = roundKeyCheck rnd s := rfl

theorem sameVisible_refl (s : State) : SameVisible s s := ⟨rfl, fun _ _ => rfl⟩

theorem SameVisible.setErr {s t : State} (h : SameVisible s t) (e : ErrCode) : SameVisible (s.setErr e) (t.setErr e) :=
  ⟨congrArg (State.setErr · e) h.1, h.2⟩

theorem SameVisible.retire {s t : State} (h : SameVisible s t) : SameVisible s.retire t.retire :=
  ⟨congrArg State.retire h.1, h.2⟩

theorem sameVisibleOutcome_refl (o : Host.Outcome State Fault Refusal) : SameVisibleOutcome o o := by
  cases o with
  | next s => exact sameVisible_refl s
  | fault r => rfl
  | refused r => rfl

/-- Two RKRAMs that a schedule is written into differ only above it (43_key_schedule.md R174). -/
theorem setSchedule_sameVisible (s : State) (r : Vector Word 60) (w : List Word) :
    SameVisible (s.setSchedule w) ((s.setRam r).setSchedule w) := by
  refine ⟨rfl, fun i hi => ?_⟩
  have hlen : i.val < w.length :=
    Nat.lt_of_lt_of_le hi (by rw [State.setSchedule_swords, BitVec.toNat_ofNat]; exact Nat.mod_le _ _)
  rw [Fin.getElem_fin, Fin.getElem_fin, setSchedule_rkram_getElem, setSchedule_rkram_getElem, if_pos hlen, if_pos hlen]

/-- A read keeps the schedule. -/
theorem portRead_schedule (idx : BitVec 7) (s : State) :
    (portRead idx s).2.swords = s.swords ∧ (portRead idx s).2.rkram = s.rkram := by
  rcases portRead_state idx s with hs | ⟨-, hs⟩ <;> rw [hs] <;> exact ⟨rfl, rfl⟩

/-- A write keeps the schedule (10_state.md R25, R33). -/
theorem portWrite_schedule (idx : BitVec 7) (v : Word) (s : State) :
    (portWrite idx v s).swords = s.swords ∧ (portWrite idx v s).rkram = s.rkram := by
  cases hb : s.busy with
  | true => rw [portWrite_busy hb]; exact ⟨rfl, rfl⟩
  | false =>
    rcases portWrite_idle (idx := idx) (v := v) hb with hs | ⟨-, hs⟩ | ⟨k, d, kl, bl, hs⟩ <;> rw [hs] <;> exact ⟨rfl, rfl⟩

section
variable {s : State} {r : Vector Word 60} (h : SameVisible s (s.setRam r))
include h

/-- An update that keeps SWORDS and RKRAM keeps the relation. -/
theorem SameVisible.setRam_of_eq {u : State} (hsw : u.swords = s.swords) (hram : u.rkram = s.rkram) :
    SameVisible u (u.setRam r) :=
  ⟨rfl, fun i hi => by rw [hram]; exact h.2 i (by rwa [← hsw])⟩

/-- The same, for a command that answers the updated state. -/
theorem SameVisible.next_of_eq {u : State} (hsw : u.swords = s.swords) (hram : u.rkram = s.rkram) :
    SameVisibleOutcome (.next u) (.next (u.setRam r)) :=
  h.setRam_of_eq hsw hram

/-- The RAM words below SWORDS agree, as the pipelines read them. -/
theorem ramWord_setRam {i : Nat} (hi : i < s.swords.toNat) : ramWord r i = ramWord s.rkram i := by
  unfold ramWord
  split
  · rename_i h60
    exact (h.2 ⟨i, h60⟩ hi).symm
  · rfl

/-! What a host sees -/

theorem rkWindow_setRam : rkWindow (s.setRam r) = rkWindow s := by
  funext i
  by_cases hi : i.val < s.swords.toNat
  · exact (if_pos hi).trans ((h.2 i hi).symm.trans (if_pos hi).symm)
  · exact (if_neg hi).trans (if_neg hi).symm

theorem visible_setRam : (s.setRam r).visible = s.visible := by
  rw [State.visible, rkWindow_setRam h]
  rfl

theorem regValue_setRam (reg : Reg) : regValue (s.setRam r) reg = regValue s reg := by
  cases reg with
  | rk i => exact congrFun (rkWindow_setRam h) i
  | _ => rfl

/-! The host port -/

theorem drawWord_setRam (idx : BitVec 7) :
    drawWord idx (s.setRam r) = ((drawWord idx s).1, (drawWord idx s).2.setRam r) := by
  rw [drawWord, visible_setRam h]
  rfl

theorem portRead_setRam (idx : BitVec 7) :
    portRead idx (s.setRam r) = ((portRead idx s).1, (portRead idx s).2.setRam r) := by
  rw [portRead, portRead, drawWord_setRam h, regValue_setRam h, State.setRam_busy]
  split <;> rfl

theorem accept_setRam (v : Word) : (s.setRam r).accept v = (s.accept v).setRam r := by
  rw [State.accept, visible_setRam h]
  rfl

theorem regWrite_setRam (v : Word) (reg : Reg) : regWrite v (s.setRam r) reg = (regWrite v s reg).setRam r := by
  cases reg with
  | cmd => exact accept_setRam h v
  | _ => rfl

theorem portWrite_setRam (idx : BitVec 7) (v : Word) : portWrite idx v (s.setRam r) = (portWrite idx v s).setRam r := by
  rw [portWrite, portWrite, regWrite_setRam h, State.setRam_busy]
  split <;> rfl

theorem hostAct_sameVisible (op : HostOp) (rest : List HostOp) :
    SameVisible (hostAct op rest s) (hostAct op rest (s.setRam r)) := by
  cases op with
  | read idx =>
    obtain ⟨hsw, hram⟩ := portRead_schedule idx s
    simp only [hostAct, portRead_setRam h]
    exact h.setRam_of_eq hsw hram
  | write idx v =>
    obtain ⟨hsw, hram⟩ := portWrite_schedule idx v s
    simp only [hostAct, portWrite_setRam h]
    exact h.setRam_of_eq hsw hram
  | wait =>
    cases hb : s.busy with
    | true => simpa [hostAct, hb] using h
    | false =>
      simp only [hostAct, State.setRam_busy, hb, Bool.false_eq_true, if_false]
      exact h.setRam_of_eq rfl rfl
  | setRst level =>
    cases level with
    | true => exact h.setRam_of_eq rfl rfl
    | false => exact sameVisible_refl _

theorem hostTurn_sameVisible : SameVisible (hostTurn s) (hostTurn (s.setRam r)) := by
  rw [hostTurn, hostTurn, State.setRam_host]
  cases s.host with
  | nil => exact h
  | cons op rest => exact hostAct_sameVisible h op rest

/-! The commands -/

theorem execExpandKey_sameVisible : SameVisibleOutcome (execExpandKey s) (execExpandKey (s.setRam r)) := by
  rw [execExpandKey, execExpandKey, State.setRam_keylen]
  cases keyWords s.keylen with
  | none => exact h.next_of_eq rfl rfl
  | some nk => exact (setSchedule_sameVisible s r _).setErr .ok

theorem execEncrypt_sameVisible (nr : BitVec 4) :
    SameVisibleOutcome (execEncrypt nr s) (execEncrypt nr (s.setRam r)) := by
  rw [execEncrypt, execEncrypt, cipherCheck_setRam]
  cases hc : cipherCheck nr s with
  | some e => exact h.next_of_eq rfl rfl
  | none =>
    have hsw := (cipherCheck_eq_none.1 hc).2
    have hd : cipher r nr.toNat s.data = cipher s.rkram nr.toNat s.data :=
      cipher_congr (fun i hi => ramWord_setRam h (by omega)) s.data
    simp only [State.setRam, hd]
    exact h.next_of_eq rfl rfl

theorem execDecrypt_sameVisible (nr : BitVec 4) :
    SameVisibleOutcome (execDecrypt nr s) (execDecrypt nr (s.setRam r)) := by
  rw [execDecrypt, execDecrypt, cipherCheck_setRam]
  cases hc : cipherCheck nr s with
  | some e => exact h.next_of_eq rfl rfl
  | none =>
    have hsw := (cipherCheck_eq_none.1 hc).2
    have hd : invCipher r nr.toNat s.data = invCipher s.rkram nr.toNat s.data :=
      invCipher_congr (fun i hi => ramWord_setRam h (by omega)) s.data
    simp only [State.setRam, hd]
    exact h.next_of_eq rfl rfl

theorem execAddRoundKey_sameVisible (rnd : BitVec 4) :
    SameVisibleOutcome (execAddRoundKey rnd s) (execAddRoundKey rnd (s.setRam r)) := by
  rw [execAddRoundKey, execAddRoundKey, roundKeyCheck_setRam]
  cases hc : roundKeyCheck rnd s with
  | some e => exact h.next_of_eq rfl rfl
  | none =>
    have hsw := roundKeyCheck_eq_none.1 hc
    have hd : addRoundKey s.data r rnd.toNat = addRoundKey s.data s.rkram rnd.toNat :=
      addRoundKey_congr (fun i hi => ramWord_setRam h (by omega)) s.data (Nat.le_refl _)
    simp only [State.setRam, hd]
    exact h.next_of_eq rfl rfl

theorem execGfTbl_sameVisible (c : BitVec 3) (x : Byte) :
    SameVisibleOutcome (execGfTbl c x s) (execGfTbl c x (s.setRam r)) := by
  rw [execGfTbl, execGfTbl]
  cases mulTable c x with
  | some v => exact h.next_of_eq rfl rfl
  | none => exact h.next_of_eq rfl rfl

theorem exec_sameVisible (i : Instr) : SameVisibleOutcome (exec i s) (exec i (s.setRam r)) := by
  cases i with
  | expandKey => exact execExpandKey_sameVisible h
  | encrypt nr => exact execEncrypt_sameVisible h nr
  | decrypt nr => exact execDecrypt_sameVisible h nr
  | addRoundKey rnd => exact execAddRoundKey_sameVisible h rnd
  | gfTbl c x => exact execGfTbl_sameVisible h c x
  | _ => exact h.next_of_eq rfl rfl

theorem execute_sameVisible (cw : Word) : SameVisibleOutcome (execute cw s) (execute cw (s.setRam r)) := by
  rw [execute, execute]
  cases decode cw with
  | ok i => exact exec_sameVisible h i
  | error _ => exact h.next_of_eq rfl rfl

theorem completion_sameVisible (cw : Word) : SameVisibleOutcome (completion cw s) (completion cw (s.setRam r)) := by
  have hexec := execute_sameVisible h cw
  rw [completion, completion]
  revert hexec
  rcases execute cw s with u | _ | _ <;> rcases execute cw (s.setRam r) with u' | _ | _ <;> intro hexec
  case next.next => exact SameVisible.retire hexec
  all_goals exact hexec

theorem step_sameVisible : SameVisibleOutcome (step s) (step (s.setRam r)) := by
  rw [step, step, advance, advance, State.setRam_rstN, State.setRam_pend,
    State.setRam_latency]
  split
  · split
    · exact completion_sameVisible h _
    · rename_i n _ _
      exact hostTurn_sameVisible (s := s.setLatency n) (h.setRam_of_eq rfl rfl)
    · exact hostTurn_sameVisible h
  · exact sameVisibleOutcome_refl (resetTurn s)

end

/-- Settles O56: reads, draws, acceptance and every command see RKRAM below SWORDS only, and EXPAND_KEY overwrites what
its new SWORDS uncovers. -/
theorem hiddenRoundKeyWordsInfluenceNothing : Obligations.HiddenRoundKeyWordsInfluenceNothing := by
  intro s t h
  have ht : t = s.setRam t.rkram := h.1
  rw [ht] at h ⊢
  exact step_sameVisible h

end Sys2Proof.Machine
end

section
/-! PROOFS. The registers at the host port of an idle core, and which command writes which register. -/

namespace Sys2Proof.Machine

/-! The fields of a word built by placing fields -/

/-- The bits that a field was placed at are the field. -/
@[simp] theorem extractLsb'_placeField {n : Nat} (v : BitVec n) {lo : Nat} (h : lo + n ≤ 32) :
    (placeField v lo).extractLsb' lo n = v := by
  refine BitVec.eq_of_getLsbD_eq fun i hi => ?_
  rw [BitVec.getLsbD_extractLsb', getLsbD_placeField]
  simp [hi, show lo + i < 32 by omega]

/-- The bits below or above a placed field are 0. -/
@[simp] theorem extractLsb'_placeField_outside {n : Nat} (v : BitVec n) {lo start len : Nat}
    (h : start + len ≤ lo ∨ lo + n ≤ start) : (placeField v lo).extractLsb' start len = 0 := by
  refine BitVec.eq_of_getLsbD_eq fun i hi => ?_
  rw [BitVec.getLsbD_extractLsb', getLsbD_placeField]
  rcases h with h | h
  · simp [show ¬ lo ≤ start + i by omega]
  · simp [BitVec.getLsbD_of_ge v (start + i - lo) (by omega)]

/-- The fields of STATUS (10_state.md R22). -/
theorem statusWord_fields (s : State) :
    (statusWord s).extractLsb' 0 4 = (if s.busy then 1#4 else 0#4) ∧ (statusWord s).extractLsb' 4 4 = s.err.code ∧
    (statusWord s).extractLsb' 8 6 = s.swords ∧ (statusWord s).extractLsb' 14 18 = 0#18 := by
  have hbusy : (placeField (BitVec.ofBool s.busy) 0).extractLsb' 0 4 = if s.busy then 1#4 else 0#4 := by
    cases s.busy <;> decide
  simp [statusWord, BitVec.extractLsb'_or, hbusy]

/-- The fields of CFG (10_state.md R27). -/
theorem cfgWord_fields (s : State) :
    (cfgWord s).extractLsb' 0 6 = s.keylen ∧ (cfgWord s).extractLsb' 6 2 = 0#2 ∧
    (cfgWord s).extractLsb' 8 5 = s.blklen ∧ (cfgWord s).extractLsb' 13 19 = 0#19 := by
  simp [cfgWord, BitVec.extractLsb'_or]

/-- The fields of RESULT (10_state.md R28). -/
theorem zext32_fields (b : Byte) : (zext32 b).extractLsb' 0 8 = b ∧ (zext32 b).extractLsb' 8 24 = 0#24 := by
  have hplace : zext32 b = placeField b 0 := by simp [zext32, placeField]
  simp [hplace]

/-! The register map, offset by offset (10_state.md R20) -/

theorem regAt_eq_id {idx : BitVec 7} : regAt idx = .id ↔ 4 * idx.toNat = 0x000 := by
  revert idx; decide

theorem regAt_status {idx : BitVec 7} (h : 4 * idx.toNat = 0x004) : regAt idx = .status := by
  revert idx; decide

theorem regAt_cfg {idx : BitVec 7} (h : 4 * idx.toNat = 0x00C) : regAt idx = .cfg := by
  revert idx; decide

theorem regAt_result {idx : BitVec 7} (h : 4 * idx.toNat = 0x010) : regAt idx = .result := by
  revert idx; decide

theorem regAt_cmd {idx : BitVec 7} (h : 4 * idx.toNat = 0x008) : regAt idx = .cmd := by
  revert idx; decide

theorem regAt_key {idx : BitVec 7} {k : Fin 8} (h : 4 * idx.toNat = 0x020 + 4 * k.val) : regAt idx = .key k := by
  simp (disch := omega) only [regAt, if_neg, dif_pos]
  exact congrArg Reg.key (Fin.ext (show idx.toNat - 8 = k.val by omega))

theorem regAt_data {idx : BitVec 7} {c : Fin 4} (h : 4 * idx.toNat = 0x040 + 4 * c.val) : regAt idx = .data c := by
  simp (disch := omega) only [regAt, if_neg, dif_neg, dif_pos]
  exact congrArg Reg.data (Fin.ext (show idx.toNat - 16 = c.val by omega))

theorem regAt_rk {idx : BitVec 7} {i : Fin 60} (h : 4 * idx.toNat = 0x100 + 4 * i.val) : regAt idx = .rk i := by
  simp (disch := omega) only [regAt, if_neg, dif_neg, dif_pos]
  exact congrArg Reg.rk (Fin.ext (show idx.toNat - 64 = i.val by omega))

/-! The step of an idle core -/

/-- A write to an idle core is the write of the register at its offset (20_memory.md R66). -/
theorem step_write_idle {s : State} {idx : BitVec 7} {v : Word} {rest : List HostOp} (hr : s.rstN = true)
    (hp : s.pend = none) (hh : s.host = .write idx v :: rest) :
    step s = .next ((regWrite v s (regAt idx)).setHost rest) := by
  simp [step, advance, hr, hp, hostTurn, hh, hostAct, portWrite, busy_eq_false.2 hp]

/-- A read of an idle core returns the value of the register at its offset and changes nothing of the core
(20_memory.md R66, R72). -/
theorem step_read_idle {s : State} {idx : BitVec 7} {rest : List HostOp} (hr : s.rstN = true)
    (hp : s.pend = none) (hh : s.host = .read idx :: rest) :
    step s = .next ((s.recordRead (regValue s (regAt idx))).setHost rest) := by
  simp [step, advance, hr, hp, hostTurn, hh, hostAct, portRead, busy_eq_false.2 hp]

/-- Settles O40: the register at the offset is written. -/
theorem idleWritesStoreIntoCfgKeyData : Obligations.IdleWritesStoreIntoCfgKeyData := by
  intro s idx v rest hr hp hh
  rw [step_write_idle hr hp hh]
  refine ⟨fun h => ?_, fun k h => ?_, fun c h => ?_⟩
  · rw [regAt_cfg h]; rfl
  · rw [regAt_key h]; rfl
  · rw [regAt_data h]; rfl

/-- Settles O43: the value is that of the register at the offset, whose fields the lemmas on the words give. -/
theorem idleReadsReturnTheRegisters : Obligations.IdleReadsReturnTheRegisters := by
  intro s idx rest hr hp hh
  refine ⟨regValue s (regAt idx), step_read_idle hr hp hh, fun h => ?_, fun h => ?_, fun h => ?_, fun h => ?_,
    fun h => ?_, fun k h => ?_, fun c h => ?_, fun i h => ?_⟩
  · rw [regAt_eq_id.2 h]; rfl
  · have hfields := statusWord_fields s
    rw [busy_eq_false.2 hp] at hfields
    rw [regAt_status h]; exact hfields
  · rw [regAt_cmd h]; rfl
  · rw [regAt_cfg h]; exact cfgWord_fields s
  · rw [regAt_result h]; exact zext32_fields s.result
  · rw [regAt_key h]; rfl
  · rw [regAt_data h]; rfl
  · rw [regAt_rk h]; rfl

/-- Right after reset every register but ID is 0 (10_state.md R41). -/
theorem regValue_reset (reg : Reg) : regValue State.reset reg = if reg = .id then idWord else 0 := by
  cases reg with
  | key k => simp [regValue, State.reset]
  | data c => simp [regValue, State.reset]
  | rk i => simp [regValue, rkWindow, State.reset]
  | _ => rfl

/-- Settles O46: the read of an idle core, at the register values right after reset. -/
theorem firstReadAfterReset : Obligations.FirstReadAfterReset := by
  refine ⟨rfl, fun idx rest => ?_⟩
  have hvalue : regValue State.reset (regAt idx) = if 4 * idx.toNat = 0x000 then 0x41455301 else 0 := by
    simp only [regValue_reset, regAt_eq_id]
    rfl
  rw [step_read_idle (s := { State.reset with host := .read idx :: rest }) rfl rfl rfl, ← hvalue]
  cases regAt idx <;> rfl

/-! Which command writes which register -/

/-- The commands that work on DATA (10_state.md R36). -/
abbrev BlockCommand (i : Instr) : Prop :=
  (∃ n, i = .encrypt n) ∨ (∃ n, i = .decrypt n) ∨ (∃ n, i = .addRoundKey n) ∨ i = .subBytes ∨ i = .shiftRows ∨
  i = .mixColumns ∨ i = .invSubBytes ∨ i = .invShiftRows ∨ i = .invMixColumns

/-- The byte-unit commands, which work on RESULT (10_state.md R28). -/
abbrev ByteUnitCommand (i : Instr) : Prop :=
  (∃ a b, i = .gfMul a b) ∨ (∃ c x, i = .gfTbl c x) ∨ (∃ b, i = .subByte b) ∨ (∃ b, i = .invSubByte b) ∨ ∃ j, i = .rcon j

/-- What each kind of command can write besides ERR: a block command DATA, a byte-unit command RESULT, EXPAND_KEY the
schedule (10_state.md R36). -/
theorem exec_writes {i : Instr} {s t : State} (h : exec i s = .next t) :
    (∃ e, t = s.setErr e) ∨
    (BlockCommand i ∧ ∃ d, t = (s.setData d).setErr .ok) ∨
    (ByteUnitCommand i ∧ ∃ b, t = (s.setResult b).setErr .ok) ∨
    (i = .expandKey ∧ ∃ w, t = (s.setSchedule w).setErr .ok) := by
  cases i with
  | nop => cases h; exact .inl ⟨.ok, rfl⟩
  | expandKey =>
    simp only [exec, execExpandKey, complete_eq, raiseErr_eq] at h
    split at h <;> cases h
    · exact .inl ⟨_, rfl⟩
    · exact .inr (.inr (.inr ⟨rfl, _, rfl⟩))
  | encrypt | decrypt | addRoundKey =>
    simp only [exec, execEncrypt, execDecrypt, execAddRoundKey, complete_eq, raiseErr_eq] at h
    split at h <;> cases h
    · exact .inl ⟨_, rfl⟩
    · exact .inr (.inl ⟨by simp [BlockCommand], _, rfl⟩)
  | gfTbl =>
    simp only [exec, execGfTbl, complete_eq, raiseErr_eq] at h
    split at h <;> cases h
    · exact .inr (.inr (.inl ⟨by simp [ByteUnitCommand], _, rfl⟩))
    · exact .inl ⟨_, rfl⟩
  | gfMul | subByte | invSubByte | rcon => cases h; exact .inr (.inr (.inl ⟨by simp [ByteUnitCommand], _, rfl⟩))
  | subBytes | shiftRows | mixColumns | invSubBytes | invShiftRows | invMixColumns =>
    cases h; exact .inr (.inl ⟨by simp [BlockCommand], _, rfl⟩)

/-- Settles O36: each kind of command writes its own register. -/
theorem commandsWriteOnlyTheirRegisters : Obligations.CommandsWriteOnlyTheirRegisters := by
  intro i s t h
  refine ⟨exec_frame h, ?_⟩
  rcases exec_writes h with ⟨e, rfl⟩ | ⟨hi, d, rfl⟩ | ⟨hi, b, rfl⟩ | ⟨hi, w, rfl⟩
  · simp
  · simpa using fun _ => hi
  · simpa using fun _ => hi
  · simpa using fun _ => hi

end Sys2Proof.Machine
end

section
/-! PROOFS. The host port of a busy core, the read-only and reserved registers, and the bus windows. -/

namespace Sys2Proof.Machine

/-! The register map: the reserved offsets, and the registers whose busy reads draw -/

/-- The reserved offsets (10_state.md R20). -/
theorem regAt_reserved {idx : BitVec 7} (h : (0x014 ≤ 4 * idx.toNat ∧ 4 * idx.toNat ≤ 0x01C) ∨
    (0x050 ≤ 4 * idx.toNat ∧ 4 * idx.toNat ≤ 0x0FC) ∨ 0x1F0 ≤ 4 * idx.toNat) : regAt idx = .reserved := by
  revert idx; decide

/-- The registers whose busy reads draw are RESULT, DATA and RK (20_memory.md R71). -/
theorem drawn_regAt {idx : BitVec 7} : (regAt idx).drawn = true ↔
    4 * idx.toNat = 0x010 ∨ (∃ c : Fin 4, 4 * idx.toNat = 0x040 + 4 * c.val) ∨
      ∃ i : Fin 60, 4 * idx.toNat = 0x100 + 4 * i.val := by
  constructor
  · intro h
    unfold regAt at h
    split_ifs at h with _ _ _ _ hresult _ _ hdata _ hrk <;> cases h
    · exact .inl (by omega)
    · exact .inr (.inl ⟨⟨_, hdata⟩, show _ = 0x040 + 4 * (idx.toNat - 16) by omega⟩)
    · exact .inr (.inr ⟨⟨_, hrk⟩, show _ = 0x100 + 4 * (idx.toNat - 64) by omega⟩)
  · rintro (h | ⟨c, h⟩ | ⟨i, h⟩)
    · rw [regAt_result h]; rfl
    · rw [regAt_data h]; rfl
    · rw [regAt_rk h]; rfl

/-! The port's answers, idle or busy -/

/-- A read of a register that does not draw returns its value, busy or idle (20_memory.md R71). -/
theorem portRead_of_not_drawn {idx : BitVec 7} {reg : Reg} (s : State) (h : regAt idx = reg) (hd : reg.drawn = false) :
    portRead idx s = (regValue s reg, s) := by
  simp [portRead, h, hd]

/-- A busy read of a register that draws is a draw (20_memory.md R71). -/
theorem portRead_of_drawn {idx : BitVec 7} {s : State} (hb : s.busy = true) (hd : (regAt idx).drawn = true) :
    portRead idx s = drawWord idx s := by
  simp [portRead, hb, hd]

/-- A read leaves everything but the draw counter (20_memory.md R72). -/
theorem portRead_frame (idx : BitVec 7) (s : State) :
    (portRead idx s).2 = { s with draws := (portRead idx s).2.draws } := by
  rcases portRead_state idx s with h | ⟨-, h⟩ <;> rw [h]

/-- A write to a reserved offset has no effect, busy or idle (20_memory.md R68). -/
theorem portWrite_reserved {idx : BitVec 7} (v : Word) (s : State) (h : regAt idx = .reserved) :
    portWrite idx v s = s := by
  simp [portWrite, h, regWrite]

/-! The host's turn while a command is pending -/

/-- A step with a command pending and latency left is the host's turn (40_command_control.md R119). -/
theorem step_busy {s : State} {cw : Word} {n : Nat} (hr : s.rstN = true) (hp : s.pend = some cw)
    (hl : s.latency = n + 1) : step s = .next (hostTurn (s.setLatency n)) := by
  simp [step, advance, hr, hp, hl]

/-- A step with nothing pending is the host's turn (20_memory.md R73). -/
theorem step_idle {s : State} (hr : s.rstN = true) (hp : s.pend = none) : step s = .next (hostTurn s) := by
  simp [step, advance, hr, hp]

/-- A step that completes no command is the host's turn, idle or busy. -/
theorem step_hostTurn {s : State} (hr : s.rstN = true) (hp : s.pend = none ∨ 0 < s.latency) :
    ∃ n, step s = .next (hostTurn (s.setLatency n)) := by
  cases hcw : s.pend with
  | none => exact ⟨s.latency, step_idle hr hcw⟩
  | some cw =>
    have hpos : 0 < s.latency := hp.resolve_left (by simp [hcw])
    exact ⟨s.latency - 1, step_busy hr hcw (by omega)⟩

theorem hostTurn_read {s : State} {idx : BitVec 7} {rest : List HostOp} (hh : s.host = .read idx :: rest) :
    hostTurn s = ((portRead idx s).2.recordRead (portRead idx s).1).setHost rest := by
  simp [hostTurn, hh, hostAct]

theorem hostTurn_write {s : State} {idx : BitVec 7} {v : Word} {rest : List HostOp}
    (hh : s.host = .write idx v :: rest) : hostTurn s = (portWrite idx v s).setHost rest := by
  simp [hostTurn, hh, hostAct]

/-! What CFG keeps of a word written to it -/

/-- A field taken out of a word and placed back is the word under the field's mask. -/
theorem placeField_extractLsb' (v : Word) (lo n : Nat) :
    placeField (v.extractLsb' lo n) lo = v &&& placeField (BitVec.allOnes n) lo := by
  refine BitVec.eq_of_getLsbD_eq fun i hi => ?_
  simp only [BitVec.getLsbD_and, getLsbD_placeField, BitVec.getLsbD_extractLsb', BitVec.getLsbD_allOnes]
  by_cases hlo : lo ≤ i
  · simp [hi, hlo, Bool.and_comm]
  · simp [hlo]

/-- CFG reads back a word written to it with the reserved bits 0 (10_state.md R27). -/
theorem cfgWord_regWrite_cfg (v : Word) (s : State) : cfgWord (regWrite v s .cfg) = v &&& 0x00001F3F := by
  have hmask : placeField (BitVec.allOnes 5) 8 ||| placeField (BitVec.allOnes 6) 0 = (0x00001F3F : Word) := by decide
  calc cfgWord (regWrite v s .cfg)
    _ = placeField (v.extractLsb' 8 5) 8 ||| placeField (v.extractLsb' 0 6) 0 := rfl
    _ = v &&& (placeField (BitVec.allOnes 5) 8 ||| placeField (BitVec.allOnes 6) 0) := by
      rw [placeField_extractLsb', placeField_extractLsb', BitVec.and_or_distrib_left]
    _ = v &&& 0x00001F3F := by rw [hmask]

/-! The obligations of the host port -/

/-- Settles O41: no read-only register stores a write, and CFG stores its two fields. -/
theorem writesToReadOnlyRegistersAreIgnored : Obligations.WritesToReadOnlyRegistersAreIgnored := by
  intro s idx v rest hr hp hh
  rw [step_write_idle hr hp hh]
  refine ⟨?_, fun h => ⟨_, rfl, ?_, ?_⟩⟩
  · rintro (h | h | h | ⟨i, h⟩)
    · rw [regAt_eq_id.2 h]; rfl
    · rw [regAt_status h]; rfl
    · rw [regAt_result h]; rfl
    · rw [regAt_rk h]; rfl
  · rw [regAt_cfg h]; rfl
  · rw [regAt_cfg h]; exact cfgWord_regWrite_cfg v s

/-- Settles O42: the host's turn at a reserved register, on an idle and on a busy core alike. -/
theorem reservedOffsetsReadZeroIgnoreWrites : Obligations.ReservedOffsetsReadZeroIgnoreWrites := by
  intro s idx v rest hr hp hidx
  have hres := regAt_reserved hidx
  obtain ⟨n, hstep⟩ := step_hostTurn hr hp
  refine ⟨fun hh => ⟨n, ?_⟩, fun hh => ⟨n, ?_⟩⟩
  · rw [hstep, hostTurn_read (s := s.setLatency n) hh, portRead_of_not_drawn _ hres rfl]; rfl
  · rw [hstep, hostTurn_write (s := s.setLatency n) hh, portWrite_reserved v _ hres]; rfl

/-- Settles O39: the host's turn, in which the busy port drops the write. -/
theorem writesWhileBusyAreDropped : Obligations.WritesWhileBusyAreDropped := by
  intro s idx v cw n rest hr hp hl hh
  have hbusy : (s.setLatency n).busy = true := busy_eq_true.2 ⟨cw, hp⟩
  rw [step_busy hr hp hl, hostTurn_write (s := s.setLatency n) hh, portWrite_busy hbusy]
  rfl

/-- Settles O44: the registers that do not draw return their values, the others a draw, and a read moves nothing of
the core. -/
theorem busyReads : Obligations.BusyReads := by
  intro s idx cw n rest hr hp hl hh
  have hbusy : (s.setLatency n).busy = true := busy_eq_true.2 ⟨cw, hp⟩
  refine ⟨(portRead idx (s.setLatency n)).1, (portRead idx (s.setLatency n)).2.draws, ?_, fun h => ?_, fun h => ?_,
    fun h => ?_, fun h => ?_, fun k h => ?_, fun h => ?_, fun hresult hdata hrk => ?_⟩
  · rw [step_busy hr hp hl, hostTurn_read (s := s.setLatency n) hh, portRead_frame]; rfl
  · rw [portRead_of_not_drawn _ (regAt_eq_id.2 h) rfl]; rfl
  · have hfields := statusWord_fields (s.setLatency n)
    rw [hbusy] at hfields
    rw [portRead_of_not_drawn _ (regAt_status h) rfl]; exact hfields
  · rw [portRead_of_not_drawn _ (regAt_cmd h) rfl]; rfl
  · rw [portRead_of_not_drawn _ (regAt_cfg h) rfl]; exact cfgWord_fields (s.setLatency n)
  · rw [portRead_of_not_drawn _ (regAt_key h) rfl]; rfl
  · rw [portRead_of_drawn hbusy (drawn_regAt.2 h)]; exact ⟨rfl, _, rfl⟩
  · have hdrawn : (regAt idx).drawn = false := by
      rw [← Bool.not_eq_true, drawn_regAt]
      simpa using ⟨hresult, hdata, hrk⟩
    rw [portRead_of_not_drawn _ rfl hdrawn]; rfl

/-! The windows on the bus -/

/-- An address in the window of base `0x200 * b` reaches the core with that base, at its offset, and no other
(20_memory.md R79). -/
theorem portIndex_window {b b' off : Nat} (h : off < 0x200) :
    portIndex b' (0x200 * b + off) = if b' = b then indexOfOffset off else none := by
  have hbase : (0x200 * b + off) / 0x200 = b := by omega
  have hoffset : (0x200 * b + off) % 0x200 = off := by omega
  simp [portIndex, hbase, hoffset, eq_comm]

/-- Settles O59: an address is a base and an offset in its window, and offsets name registers one to one. -/
theorem busWindowsSelectOneRegister : Obligations.BusWindowsSelectOneRegister := by
  intro b idx
  have hidx : idx.toNat < 128 := idx.isLt
  refine ⟨?_, fun off hpos hlt => ?_, fun b' hb => ?_⟩
  · rw [busAddress, portIndex_window (by omega), if_pos rfl, indexOfOffset_four_mul]
  · rw [busAddress, Nat.add_assoc, portIndex_window (by omega), if_pos rfl, indexOfOffset_eq_none]
    omega
  · rw [busAddress, portIndex_window (by omega), if_neg hb]

end Sys2Proof.Machine
end

section
/-! PROOFS. The decoder and the encoder are inverse to each other on the legal command words, and the illegal ones are
those of 30_encoding.md R95. -/

namespace Sys2Proof

open Sys2Proof.Machine

/-! Reading the operands of a command out of a word -/

/-- The command of the same opcode as the one given, its operands those in the fields of `cw` (30_encoding.md R93). -/
def Instr.readOperands (cw : Word) : Instr → Instr
  | .nop => .nop
  | .expandKey => .expandKey
  | .encrypt _ => .encrypt (fieldN cw)
  | .decrypt _ => .decrypt (fieldN cw)
  | .subBytes => .subBytes
  | .shiftRows => .shiftRows
  | .mixColumns => .mixColumns
  | .addRoundKey _ => .addRoundKey (fieldN cw)
  | .invSubBytes => .invSubBytes
  | .invShiftRows => .invShiftRows
  | .invMixColumns => .invMixColumns
  | .gfMul _ _ => .gfMul (fieldA cw) (fieldB cw)
  | .gfTbl _ _ => .gfTbl (fieldT cw) (fieldA cw)
  | .subByte _ => .subByte (fieldA cw)
  | .invSubByte _ => .invSubByte (fieldA cw)
  | .rcon _ => .rcon (fieldN cw)

@[simp] theorem Instr.opcode_readOperands (cw : Word) (i : Instr) : (i.readOperands cw).opcode = i.opcode := by
  cases i <;> rfl

@[simp] theorem Instr.format_readOperands (cw : Word) (i : Instr) : (i.readOperands cw).format = i.format := by
  cases i <;> rfl

/-- The operands of a command are in the fields of its word (30_encoding.md R91). -/
theorem readOperands_encode (i : Instr) : i.readOperands (encode i) = i := by
  cases i <;> simp [Instr.readOperands, encode]

/-- The word of every command has its opcode, its format, and 0 in the unused bits. -/
theorem commandWord_statement (i : Instr) : Laws.CommandWord.Statement i := by
  cases i with
  | nop => exact Laws.CommandWord.nop
  | expandKey => exact Laws.CommandWord.expandKey
  | encrypt nr => exact Laws.CommandWord.encrypt nr
  | decrypt nr => exact Laws.CommandWord.decrypt nr
  | subBytes => exact Laws.CommandWord.subBytes
  | shiftRows => exact Laws.CommandWord.shiftRows
  | mixColumns => exact Laws.CommandWord.mixColumns
  | addRoundKey r => exact Laws.CommandWord.addRoundKey r
  | invSubBytes => exact Laws.CommandWord.invSubBytes
  | invShiftRows => exact Laws.CommandWord.invShiftRows
  | invMixColumns => exact Laws.CommandWord.invMixColumns
  | gfMul a b => exact Laws.CommandWord.gfMul a b
  | gfTbl t x => exact Laws.CommandWord.gfTbl t x
  | subByte b => exact Laws.CommandWord.subByte b
  | invSubByte b => exact Laws.CommandWord.invSubByte b
  | rcon j => exact Laws.CommandWord.rcon j

/-- A field widened before it is placed is the same field: T of GF_TBL goes in the place of N (30_encoding.md R91). -/
theorem placeField_setWidth {m n : Nat} (v : BitVec n) (lo : Nat) (h : n ≤ m) :
    placeField (v.setWidth m) lo = placeField v lo := by
  rw [placeField, placeField]
  congr 1
  exact BitVec.setWidth_setWidth (by omega)

/-- The word of a command read out of `cw` is its opcode and the bits of `cw` that its format leaves open
(30_encoding.md R92). -/
theorem encode_readOperands (cw : Word) (i : Instr) :
    encode (i.readOperands cw) = cw &&& ~~~ i.format.mask ||| i.opcode.setWidth 32 := by
  cases i <;> simp only [Instr.readOperands, encode, commandWord, fieldN, fieldT, fieldA, fieldB, Instr.format,
    Instr.opcode, placeField_setWidth _ _ (show 3 ≤ 4 by decide), placeField_extractLsb']
  all_goals simp [placeField, Format.mask, ← BitVec.and_or_distrib_left]

/-- A word of the format of an opcode is the word of the command read out of it (30_encoding.md R92, R97). -/
theorem encode_readOperands_of_hasFormat {cw : Word} {i : Instr} (h : hasFormat i.format i.opcode cw = true) :
    encode (i.readOperands cw) = cw := by
  rw [hasFormat, beq_iff_eq] at h
  calc encode (i.readOperands cw)
    _ = cw &&& ~~~ i.format.mask ||| cw &&& i.format.mask := by rw [encode_readOperands, h]
    _ = cw := by rw [← BitVec.and_or_distrib_left, BitVec.not_or_self, BitVec.and_allOnes]

/-! The decoder's answers -/

theorem checked_eq_ok {f : Format} {cw : Word} {i j : Instr} :
    checked f cw i = .ok j ↔ hasFormat f (fieldOp cw) cw = true ∧ i = j := by
  unfold checked
  split <;> simp [*]

/-- A word with an assigned opcode decodes exactly if it is of the opcode's format and its operands are well formed
(30_encoding.md R94, R95). -/
theorem decode_of_opcode {cw : Word} {i j : Instr} (hop : fieldOp cw = i.opcode) :
    decode cw = .ok j ↔
      hasFormat i.format i.opcode cw = true ∧ WellFormed (i.readOperands cw) ∧ i.readOperands cw = j := by
  cases i with
  | gfTbl =>
    by_cases ht : (fieldT cw).toNat < 6 <;>
      simp [decode, hop, checked_eq_ok, Instr.opcode, Instr.format, Instr.readOperands, WellFormed, Instr.wellFormed,
        ht]
  | _ => simp [decode, hop, checked_eq_ok, Instr.opcode, Instr.format, Instr.readOperands, WellFormed, Instr.wellFormed]

/-- A word that decodes carries the opcode of its command in OP (30_encoding.md R94). -/
theorem fieldOp_of_decode {cw : Word} {i : Instr} (h : decode cw = .ok i) : fieldOp cw = i.opcode := by
  refine BitVec.eq_of_toNat_eq ?_
  unfold decode at h
  split at h
  case h_13 hop =>
    split at h
    · obtain ⟨-, rfl⟩ := checked_eq_ok.1 h; exact hop
    · cases h
  case h_17 => cases h
  all_goals obtain ⟨-, rfl⟩ := checked_eq_ok.1 h; assumption

/-! The round trips -/

/-- Settles O1: the word of a command has its opcode and its format, and its operands in the fields the decoder reads. -/
theorem decodeOfEncodeIsTheCommand : Obligations.DecodeOfEncodeIsTheCommand := by
  intro i hwf
  obtain ⟨hop, hformat, -⟩ := commandWord_statement i
  have hread := readOperands_encode i
  exact (decode_of_opcode hop).2 ⟨hformat, hread.symm ▸ hwf, hread⟩

/-- Settles O2: the command is the one read out of the word, and the word is of the format of the opcode. -/
theorem decodedWordIsTheEncoding : Obligations.DecodedWordIsTheEncoding := by
  intro cw i h
  obtain ⟨hformat, hwf, hread⟩ := (decode_of_opcode (fieldOp_of_decode h)).1 h
  have hencode := encode_readOperands_of_hasFormat hformat
  rw [hread] at hwf hencode
  exact ⟨hwf, hencode⟩

/-- Settles O3: each word is that of its command. -/
theorem writtenOutWordsDecode : Obligations.WrittenOutWordsDecode := by
  unfold Obligations.WrittenOutWordsDecode
  decide

/-! The illegal words of the opcode table (30_encoding.md R95) -/

/-- The opcode table has exactly one row with the opcode of a command: that of its format (30_encoding.md R94, R97). -/
theorem opcodeRows_filter_opcode (i : Instr) :
    opcodeRows.filter (fun row => row.1 == i.opcode) = [(i.opcode, i.format.mask)] := by
  cases i <;> rfl

/-- Every row of the opcode table is that of a command (30_encoding.md R94). -/
theorem exists_opcode_of_mem_opcodeRows {row : Byte × Word} (h : row ∈ opcodeRows) : ∃ i : Instr, i.opcode = row.1 := by
  have hops : opcodeRows.map Prod.fst = [Instr.nop, .expandKey, .encrypt 0, .decrypt 0, .subBytes, .shiftRows,
      .mixColumns, .addRoundKey 0, .invSubBytes, .invShiftRows, .invMixColumns, .gfMul 0 0, .gfTbl 0 0, .subByte 0,
      .invSubByte 0, .rcon 0].map Instr.opcode := rfl
  have hmem : row.1 ∈ opcodeRows.map Prod.fst := List.mem_map_of_mem h
  rw [hops] at hmem
  obtain ⟨i, -, hi⟩ := List.mem_map.1 hmem
  exact ⟨i, hi⟩

/-- The operand values that are not well formed are GF_TBL's selectors 6 and 7 (30_encoding.md R95 point 3). -/
theorem wellFormed_gfTbl {t : BitVec 3} {x : Byte} : WellFormed (.gfTbl t x) ↔ ¬ (t = 6 ∨ t = 7) := by
  have h : ∀ t : BitVec 3, decide (t.toNat < 6) = true ↔ ¬ (t = 6 ∨ t = 7) := by decide
  exact h t

/-- Point 1 of R95 is that no command has the word's opcode. -/
theorem unassigned_iff {cw : Word} :
    opcodeRows.all (fun row => row.1 != cw.setWidth 8) = true ↔ ∀ i : Instr, fieldOp cw ≠ i.opcode := by
  rw [List.all_eq_true]
  constructor
  · intro h i hop
    have hmem : (i.opcode, i.format.mask) ∈ opcodeRows.filter (fun row => row.1 == i.opcode) := by
      rw [opcodeRows_filter_opcode]; exact List.mem_singleton_self _
    exact bne_iff_ne.1 (h _ (List.mem_filter.1 hmem).1) hop.symm
  · intro h row hrow
    obtain ⟨i, hi⟩ := exists_opcode_of_mem_opcodeRows hrow
    exact bne_iff_ne.2 fun heq => h i (heq.symm.trans hi.symm)

/-- Point 2 of R95, at a word with the opcode of a command, is that the word is not of the command's format. -/
theorem bitOutsideFormat_iff {cw : Word} {i : Instr} (hop : fieldOp cw = i.opcode) :
    opcodeRows.any (fun row => row.1 == cw.setWidth 8 && cw &&& row.2 != row.1.setWidth 32) = true ↔
      ¬ hasFormat i.format i.opcode cw = true := by
  have hop : cw.setWidth 8 = i.opcode := hop
  rw [hop, ← List.any_filter, opcodeRows_filter_opcode]
  simp [hasFormat]

/-- Point 3 of R95, at a word with the opcode of a command, is that the operands in it are not well formed. -/
theorem reservedTable_iff {cw : Word} {i : Instr} (hop : fieldOp cw = i.opcode) :
    cw.setWidth 8 = 0x21#8 ∧ (cw.extractLsb' 8 3 = 6#3 ∨ cw.extractLsb' 8 3 = 7#3) ↔
      ¬ WellFormed (i.readOperands cw) := by
  have hop : cw.setWidth 8 = i.opcode := hop
  rw [hop]
  cases i with
  | gfTbl =>
    rw [Instr.readOperands, wellFormed_gfTbl, not_not]
    exact and_iff_right rfl
  | _ => simp [Instr.opcode, Instr.readOperands, WellFormed, Instr.wellFormed]

/-- A word is illegal by R95 exactly if it decodes to no command (30_encoding.md R97). -/
theorem illegalWord_iff {cw : Word} : IllegalWord cw ↔ ¬ ∃ i, decode cw = .ok i := by
  by_cases hassigned : ∃ i : Instr, fieldOp cw = i.opcode
  · obtain ⟨i, hop⟩ := hassigned
    have hdecodes : (∃ j, decode cw = .ok j) ↔
        hasFormat i.format i.opcode cw = true ∧ WellFormed (i.readOperands cw) := by
      simp [decode_of_opcode hop]
    have hpoint1 : ¬ ∀ j : Instr, fieldOp cw ≠ j.opcode := fun h => h i hop
    rw [IllegalWord, unassigned_iff, bitOutsideFormat_iff hop, reservedTable_iff hop, hdecodes]
    tauto
  · have hundecoded : ¬ ∃ i, decode cw = .ok i := fun ⟨i, h⟩ => hassigned ⟨i, fieldOp_of_decode h⟩
    exact iff_of_true (.inl (unassigned_iff.2 (not_exists.1 hassigned))) hundecoded

end Sys2Proof
end

section
/-! PROOFS. What the core does with an illegal word and with a legal one (40_command_control.md R112, R113), and the
multiplications by table. -/

namespace Sys2Proof.Machine

/-! Execution and completion of a command word -/

/-- An illegal word raises IllegalCommand (40_command_control.md R112). -/
theorem execute_of_illegalWord {cw : Word} (h : IllegalWord cw) (s : State) :
    execute cw s = .next (s.setErr .illegalCommand) := by
  unfold execute
  split
  · rename_i i hi
    exact absurd ⟨i, hi⟩ (illegalWord_iff.1 h)
  · rfl

/-- A legal word runs its command (40_command_control.md R113). -/
theorem execute_of_decode {cw : Word} {i : Instr} (h : decode cw = .ok i) (s : State) : execute cw s = exec i s := by
  rw [execute, h]

/-- The step of a ready word is its execution, with PEND cleared after it (40_command_control.md R111). -/
theorem step_of_ready {s t : State} {cw : Word} (h : Ready s cw) (ht : execute cw s = .next t) :
    step s = .next t.retire := by
  obtain ⟨hr, hp, hl⟩ := h
  simp [step, advance, completion, hr, hp, hl, ht]

/-- No check of ENCRYPT and DECRYPT is the one for an illegal word (60_exceptions.md R251). -/
theorem cipherCheck_ne_illegalCommand (nr : BitVec 4) (s : State) : cipherCheck nr s ≠ some .illegalCommand := by
  unfold cipherCheck
  split_ifs <;> simp

/-- The check of ADD_ROUND_KEY is not the one for an illegal word (60_exceptions.md R251). -/
theorem roundKeyCheck_ne_illegalCommand (r : BitVec 4) (s : State) : roundKeyCheck r s ≠ some .illegalCommand := by
  unfold roundKeyCheck
  split_ifs <;> simp

/-- The selectors with no table are 6 and 7 (30_encoding.md R93). -/
theorem mulTable_eq_none {t : BitVec 3} {x : Byte} : mulTable t x = none ↔ t = 6 ∨ t = 7 := by
  constructor
  · unfold mulTable
    split
    case h_7 h0 h1 h2 h3 h4 h5 =>
      intro _
      revert t
      decide
    all_goals exact nofun
  · rintro (rfl | rfl) <;> rfl

/-- A well-formed command completes, with a code other than that of an illegal word (60_exceptions.md R250, R251). -/
theorem exec_wellFormed {i : Instr} (h : WellFormed i) (s : State) :
    ∃ t, exec i s = .next t ∧ t.err ≠ .illegalCommand := by
  cases i with
  | expandKey =>
    simp only [exec, execExpandKey, complete_eq, raiseErr_eq]
    split <;> exact ⟨_, rfl, by simp⟩
  | encrypt nr | decrypt nr =>
    simp only [exec, execEncrypt, execDecrypt, complete_eq, raiseErr_eq]
    split
    · rename_i e he
      exact ⟨_, rfl, fun h => cipherCheck_ne_illegalCommand nr s (he.trans (congrArg some h))⟩
    · exact ⟨_, rfl, by simp⟩
  | addRoundKey r =>
    simp only [exec, execAddRoundKey, complete_eq, raiseErr_eq]
    split
    · rename_i e he
      exact ⟨_, rfl, fun h => roundKeyCheck_ne_illegalCommand r s (he.trans (congrArg some h))⟩
    · exact ⟨_, rfl, by simp⟩
  | gfTbl t x =>
    simp only [exec, execGfTbl, complete_eq, raiseErr_eq]
    split
    · exact ⟨_, rfl, by simp⟩
    · rename_i hnone
      exact absurd (mulTable_eq_none.1 hnone) (wellFormed_gfTbl.1 h)
  | _ => exact ⟨_, rfl, by simp⟩

/-- Settles O4: an illegal word decodes to no command, and a legal one to a well-formed command. -/
theorem illegalWordsAndOnlyTheyRaiseIllegalCommand : Obligations.IllegalWordsAndOnlyTheyRaiseIllegalCommand := by
  intro s cw hready
  refine ⟨fun hillegal => step_of_ready hready (execute_of_illegalWord hillegal s), fun hlegal => ?_⟩
  obtain ⟨i, hi⟩ := not_not.1 (mt illegalWord_iff.2 hlegal)
  obtain ⟨t, ht, herr⟩ := exec_wellFormed (decodedWordIsTheEncoding cw i hi).1 s
  exact ⟨t.retire, step_of_ready hready ((execute_of_decode hi s).trans ht), herr⟩

/-! Multiplication by table -/

/-- The constants of the tables, in the order of their selectors (30_encoding.md R93). -/
def tableConstants : Vector Byte 6 := #v[2, 3, 9, 11, 13, 14]

/-- The table of a selector holds the products by its constant (41_gf_arith.md R134). -/
theorem mulTable_eq_gfMul (t : Fin 6) (x : Byte) :
    mulTable (BitVec.ofNat 3 t.val) x = some (gfMul tableConstants[t] x) := by
  revert t x
  decide +kernel

/-- The selectors 0 to 5 are well formed (30_encoding.md R93). -/
theorem wellFormed_gfTbl_table (t : Fin 6) (x : Byte) : WellFormed (.gfTbl (BitVec.ofNat 3 t.val) x) := by
  rw [wellFormed_gfTbl]
  revert t
  decide

/-- GF_TBL with the selector of a table writes the product by its constant (41_gf_arith.md R136). -/
theorem exec_gfTbl (t : Fin 6) (x : Byte) (s : State) :
    exec (.gfTbl (BitVec.ofNat 3 t.val) x) s = .next ((s.setResult (gfMul tableConstants[t] x)).setErr .ok) := by
  simp only [exec, execGfTbl, mulTable_eq_gfMul, complete_eq]

/-- Settles O16: the constant is that of a selector 0 to 5, whose command is well formed and reads its table. -/
theorem gfTblByConstantMultipliesByIt : Obligations.GfTblByConstantMultipliesByIt := by
  intro c x
  refine ⟨fun hc => ?_, fun hc => ?_⟩
  · obtain ⟨t, hasm, hconst⟩ : ∃ t : Fin 6, assembleGfTbl c x = some (.gfTbl (BitVec.ofNat 3 t.val) x) ∧
        BitVec.ofNat 8 c = tableConstants[t] := by
      simp only [List.mem_cons, List.not_mem_nil, or_false] at hc
      rcases hc with rfl | rfl | rfl | rfl | rfl | rfl
      exacts [⟨0, rfl, rfl⟩, ⟨1, rfl, rfl⟩, ⟨2, rfl, rfl⟩, ⟨3, rfl, rfl⟩, ⟨4, rfl, rfl⟩, ⟨5, rfl, rfl⟩]
    refine ⟨_, hasm, decodeOfEncodeIsTheCommand _ (wellFormed_gfTbl_table t x), fun s => ?_⟩
    rw [hconst]
    exact exec_gfTbl t x s
  · unfold assembleGfTbl
    split
    case h_7 => rfl
    all_goals exact absurd (by decide) hc

/-- Settles O15: no table for the term, and the word of the term is illegal by point 3 of R95. -/
theorem gfTblReservedSelectorsAreIllegal : Obligations.GfTblReservedSelectorsAreIllegal := by
  intro t x s ht
  refine ⟨?_, execute_of_illegalWord (.inr (.inr ⟨?_, ?_⟩)) s⟩
  · simp only [exec, execGfTbl, mulTable_eq_none.2 ht]; rfl
  · exact fieldOp_commandWord ..
  · rwa [show (encode (.gfTbl t x)).extractLsb' 8 3 = t from fieldT_commandWord ..]

/-! Waiting -/

/-- A wait is left when the core is not busy (30_encoding.md R99). -/
theorem hostTurn_wait {s : State} {rest : List HostOp} (hh : s.host = .wait :: rest) :
    hostTurn s = if s.busy then s else s.setHost rest := by
  simp [hostTurn, hh, hostAct]

/-- Settles O45: a wait goes on the host's list only while the core is busy. -/
theorem waitEndsWhenNotBusy : Obligations.WaitEndsWhenNotBusy := by
  intro s rest hr hh
  refine ⟨fun hp => ?_, fun cw n hp hl => ?_⟩
  · rw [step_idle hr hp, hostTurn_wait hh, if_neg (by simp [busy_eq_false.2 hp])]; rfl
  · have hbusy : (s.setLatency n).busy = true := busy_eq_true.2 ⟨cw, hp⟩
    rw [step_busy hr hp hl, hostTurn_wait (s := s.setLatency n) hh, if_pos hbusy]; rfl

end Sys2Proof.Machine
end

section
/-! PROOFS. The host form `wr4` on a bank of registers (30_encoding.md R99, 20_memory.md R62 to R64). -/

namespace Sys2Proof.Machine

/-- A run takes a step and goes on from there. -/
theorem coreRun_succ {M : Host.Core} {s t : M.State} (h : M.step s = .next t) (k : Nat) : M.run (k + 1) s = M.run k t := by
  rw [Host.Core.run, h]

/-- Access `k` of the list writes the four bytes from `4 * (j + k)` on to register `j + k` of the bank at offset `base`. -/
def WritesBytes (base : Nat) (byte : Nat → Byte) (j : Nat) (ops : List HostOp) : Prop :=
  ∀ k, k < ops.length → ∃ (idx : BitVec 7) (v : Word), ops[k]? = some (.write idx v) ∧
    4 * idx.toNat = base + 4 * (j + k) ∧ ∀ r : Fin 4, byteOf v r = byte (4 * (j + k) + r.val)

theorem WritesBytes.tail {base : Nat} {byte : Nat → Byte} {j : Nat} {op : HostOp} {ops : List HostOp}
    (h : WritesBytes base byte j (op :: ops)) : WritesBytes base byte (j + 1) ops := by
  intro k hk
  have hnext := h (k + 1) (Nat.succ_lt_succ hk)
  rwa [List.getElem?_cons_succ, ← Nat.add_assoc, Nat.add_right_comm] at hnext

/-- The registers of the bank at offset `base` are the elements of the vector that `store` puts into the state: a write
to the register `c` sets the element `c`. -/
def StoresBank (n base : Nat) (store : Vector Word n → State) : Prop :=
  ∀ (a : Vector Word n) (c : Fin n) (idx : BitVec 7) (v : Word) (rest : List HostOp),
    4 * idx.toNat = base + 4 * c.val →
    step ((store a).setHost (.write idx v :: rest)) = .next ((store (a.set c v)).setHost rest)

section
variable {n base : Nat} {store : Vector Word n → State}

/-- A run of the accesses loads the bytes into the registers from `j` on and keeps the other registers. -/
theorem run_writesBytes (hstore : StoresBank n base store) (byte : Nat → Byte) (rest : List HostOp) :
    ∀ (ops : List HostOp) (j : Nat) (a : Vector Word n), WritesBytes base byte j ops → j + ops.length ≤ n →
      ∃ a' : Vector Word n,
        Host.Core.run Sys2Proof.core ops.length ((store a).setHost (ops ++ rest)) = .next ((store a').setHost rest) ∧
        ∀ (c : Fin n) (r : Fin 4), byteOf a'[c] r =
          if j ≤ c.val ∧ c.val < j + ops.length then byte (4 * c.val + r.val) else byteOf a[c] r := by
  intro ops
  induction ops with
  | nil => exact fun j a _ _ => ⟨a, rfl, fun c r => by rw [if_neg]; simp⟩
  | cons op ops ih =>
    intro j a hops hlen
    rw [List.length_cons] at hlen
    obtain ⟨idx, v, hop, hidx, hbytes⟩ := hops 0 (Nat.succ_pos _)
    cases hop
    have hj : j < n := by omega
    obtain ⟨a', hrun, ha'⟩ := ih (j + 1) (a.set j v) hops.tail (by omega)
    have hstep := hstore a ⟨j, hj⟩ idx v (ops ++ rest) hidx
    refine ⟨a', (coreRun_succ (M := Sys2Proof.core) hstep ops.length).trans hrun, fun c r => ?_⟩
    rw [ha' c r, List.length_cons]
    by_cases hc : c.val = j
    · have hv : (a.set j v)[c] = v := by simp [hc]
      rw [if_neg (by omega), if_pos (by omega), hv, hbytes r, hc]
      rfl
    · have ha : (a.set j v)[c] = a[c] := by simp [Ne.symm hc]
      rw [ha]
      exact if_congr (by omega) rfl rfl

/-- `wr4` of a string of 4k bytes at the offset of a bank of at least k registers loads the bytes of the string in order,
in k steps, and keeps the bytes after them (30_encoding.md R99, 20_memory.md R62). -/
theorem run_wr4 (hbase : base % 4 = 0) (hwindow : base + 4 * n ≤ 0x200) (hstore : StoresBank n base store)
    (a : Vector Word n) {h : List Byte} {k : Nat} (hlen : h.length = 4 * k) (hk : k ≤ n) (rest : List HostOp) :
    ∃ (ops : List HostOp) (a' : Vector Word n), wr4 base h = some ops ∧
      Host.Core.run Sys2Proof.core k ((store a).setHost (ops ++ rest)) = .next ((store a').setHost rest) ∧
      ∀ (c : Fin n) (r : Fin 4), byteOf a'[c] r =
        if 4 * c.val + r.val < h.length then h.getD (4 * c.val + r.val) 0 else byteOf a[c] r := by
  obtain ⟨ops, hops⟩ := Option.isSome_iff_exists.1 (wr4_isSome k hlen hbase (by omega))
  have hopsLen : ops.length = k := by have := wr4_length hops; omega
  have hwrites : WritesBytes base (fun m => h.getD m 0) 0 ops := by
    intro m hm
    obtain ⟨idx, v, hop, hidx, hbytes⟩ := wr4_access hops m hm
    exact ⟨idx, v, hop, by omega, fun r => by rw [hbytes r, Nat.zero_add]⟩
  obtain ⟨a', hrun, ha'⟩ := run_writesBytes hstore _ rest ops 0 a hwrites (by omega)
  rw [hopsLen] at hrun
  refine ⟨ops, a', hops, hrun, fun c r => ?_⟩
  rw [ha' c r]
  exact if_congr (by omega) rfl rfl

end

/-- A write to KEY of an idle core stores into the key (10_state.md R29). -/
theorem storesBank_key {s : State} (hr : s.rstN = true) (hp : s.pend = none) :
    StoresBank 8 0x020 fun key => { s with key := key } := by
  intro key c idx v rest hidx
  obtain ⟨-, hkey, -⟩ :=
    idleWritesStoreIntoCfgKeyData { s with key := key, host := .write idx v :: rest } idx v rest hr hp rfl
  exact hkey c hidx

/-- A write to DATA of an idle core stores into the block (10_state.md R31). -/
theorem storesBank_data {s : State} (hr : s.rstN = true) (hp : s.pend = none) :
    StoresBank 4 0x040 fun data => { s with data := data } := by
  intro data c idx v rest hidx
  obtain ⟨-, -, hdata⟩ :=
    idleWritesStoreIntoCfgKeyData { s with data := data, host := .write idx v :: rest } idx v rest hr hp rfl
  exact hdata c hidx

/-- Settles O60: KEY and DATA are banks of registers, and byte `m` of a bank is byte `m mod 4` of its register `m div 4`
(20_memory.md R63, R64). -/
theorem stringWriteLoadsKeyAndBlockBytes : Obligations.StringWriteLoadsKeyAndBlockBytes := by
  intro s h k rest hr hp hlen
  refine ⟨fun hk => ?_, fun hk => ?_⟩
  · obtain ⟨ops, key, hops, hrun, hbytes⟩ :=
      run_wr4 (by decide) (by decide) (storesBank_key hr hp) s.key hlen hk rest
    refine ⟨ops, key, hops, hrun, fun m => ?_⟩
    have hm := hbytes ⟨m.val / 4, by omega⟩ ⟨m.val % 4, by omega⟩
    rwa [Nat.div_add_mod] at hm
  · obtain ⟨ops, data, hops, hrun, hbytes⟩ :=
      run_wr4 (by decide) (by decide) (storesBank_data hr hp) s.data hlen hk rest
    refine ⟨ops, data, hops, hrun, fun m => ?_⟩
    have hm := hbytes ⟨m.val / 4, by omega⟩ ⟨m.val % 4, by omega⟩
    rwa [Nat.div_add_mod] at hm

end Sys2Proof.Machine
end

section
/-! PROOFS. Command control: every command word completes, a failing one writes ERR alone, and a pending one completes
from the registers as they stood (40_command_control.md). -/

namespace Sys2Proof.Machine

/-! Execution of a command word -/

/-- Settles O7: an illegal word raises IllegalCommand, and a legal one is the word of a well-formed command. -/
theorem everyCommandWordCompletes : Obligations.EveryCommandWordCompletes := by
  intro cw s
  by_cases hillegal : IllegalWord cw
  · exact ⟨_, execute_of_illegalWord hillegal s⟩
  · obtain ⟨i, hi⟩ := not_not.1 (mt illegalWord_iff.2 hillegal)
    obtain ⟨t, ht, -⟩ := exec_wellFormed (decodedWordIsTheEncoding cw i hi).1 s
    exact ⟨t, (execute_of_decode hi s).trans ht⟩

/-- A command fails, writing ERR alone, or leaves ERR = 0 (40_command_control.md R114, R115). -/
theorem exec_fails_or_ok {i : Instr} {s t : State} (h : exec i s = .next t) : (∃ e, t = s.setErr e) ∨ t.err = .ok := by
  rcases exec_inversion h with ⟨e, -, ht⟩ | rfl | ⟨d, rfl⟩ | ⟨b, rfl⟩ | ⟨nk, -, -, rfl⟩
  · exact .inl ⟨e, ht⟩
  all_goals exact .inr rfl

/-- Settles O35: an illegal word and a failing command both end in a write of ERR, and any other command leaves ERR 0. -/
theorem failingCommandWritesOnlyErr : Obligations.FailingCommandWritesOnlyErr := by
  intro cw s t h herr
  rcases execute_inversion h with rfl | ⟨i, -, hi⟩
  · rfl
  · rcases exec_fails_or_ok hi with ⟨e, rfl⟩ | hok
    · rfl
    · exact absurd hok herr

/-- Settles O5: the step of a ready word is its execution, which is that of the command it decodes to. -/
theorem stepRunsTheDecodedCommand : Obligations.StepRunsTheDecodedCommand := by
  intro s cw i hready hi
  obtain ⟨t, ht⟩ := everyCommandWordCompletes cw s
  have hexec : exec i s = .next t := (execute_of_decode hi s).symm.trans ht
  rw [step_of_ready hready ht, hexec]
  rfl

/-- A word of the opcode table that is read as a command is a command word that decodes to it. -/
theorem decode_of_decodeTableWord {nbits w : Nat} {i : Instr} (h : decodeTableWord nbits w = some i) :
    decode (BitVec.ofNat 32 (w % 2 ^ nbits)) = .ok i := by
  unfold decodeTableWord at h
  split at h
  · rename_i j hj
    cases h; exact hj
  · cases h

/-- Settles O6: the placed word is pending with no latency left. -/
theorem placedWordRunsAtTheNextStep : Obligations.PlacedWordRunsAtTheNextStep :=
  fun _ _ _ h => stepRunsTheDecodedCommand _ _ _ ⟨rfl, rfl, rfl⟩ (decode_of_decodeTableWord h)

/-! NOP -/

/-- A format with every bit checked has one word for each opcode (30_encoding.md R92). -/
theorem hasFormat_z {op : Byte} {cw : Word} : hasFormat .z op cw = true ↔ cw = op.setWidth 32 := by
  rw [hasFormat, Format.mask, beq_iff_eq, show 0xFFFFFFFF#32 = BitVec.allOnes 32 from rfl, BitVec.and_allOnes]

/-- Settles O11: a word with NOP's opcode is the word 0 or not of NOP's format. -/
theorem nopWritesOnlyErr : Obligations.NopWritesOnlyErr := by
  refine ⟨fun s => rfl, fun cw hop => ⟨?_, fun hne s => ?_⟩⟩
  · rintro rfl
    exact decodeOfEncodeIsTheCommand .nop rfl
  · have hformat : ¬ hasFormat .z 0x00 cw = true := fun h => hne (hasFormat_z.1 h)
    exact execute_of_illegalWord (.inr (.inl ((bitOutsideFormat_iff (i := .nop) hop).2 hformat))) s

/-! Acceptance of a command word -/

/-- Settles O38: a write to CMD of an idle core is an acceptance, and a busy port drops every write. -/
theorem cmdWriteIsAcceptedOnlyWhileIdle : Obligations.CmdWriteIsAcceptedOnlyWhileIdle := by
  intro s v rest hr hh
  refine ⟨fun hp => ⟨Config.latency s.draws (v :: s.visible), ?_⟩,
    fun cw n hp hl => writesWhileBusyAreDropped s 2 v cw n rest hr hp hl hh⟩
  rw [step_write_idle hr hp hh, regAt_cmd rfl]
  rfl

/-! The host's side of the state -/

/-- `s` with the fields of `p` that are the model's own: the latency left, the draw counter, the host's accesses and the
values its reads returned (log entries 2 to 5). -/
def State.withHostSide (s p : State) : State :=
  { s with latency := p.latency, draws := p.draws, host := p.host, reads := p.reads }

@[simp] theorem State.withHostSide_keylen (s p : State) : (s.withHostSide p).keylen = s.keylen := rfl

@[simp] theorem cipherCheck_withHostSide (nr : BitVec 4) (s p : State) :
    cipherCheck nr (s.withHostSide p) = cipherCheck nr s := rfl

@[simp] theorem roundKeyCheck_withHostSide (r : BitVec 4) (s p : State) :
    roundKeyCheck r (s.withHostSide p) = roundKeyCheck r s := rfl

/-- A command neither reads nor writes the host's side: its checks and its results are those of the registers. -/
theorem exec_withHostSide {i : Instr} {s u : State} (p : State) (h : exec i s = .next u) :
    exec i (s.withHostSide p) = .next (u.withHostSide p) := by
  revert h
  cases i with
  | expandKey =>
    simp only [exec, execExpandKey, State.withHostSide_keylen]
    split <;> (rintro ⟨⟩; rfl)
  | encrypt | decrypt =>
    simp only [exec, execEncrypt, execDecrypt, cipherCheck_withHostSide]
    split <;> (rintro ⟨⟩; rfl)
  | addRoundKey =>
    simp only [exec, execAddRoundKey, roundKeyCheck_withHostSide]
    split <;> (rintro ⟨⟩; rfl)
  | gfTbl =>
    simp only [exec, execGfTbl]
    split <;> (rintro ⟨⟩; rfl)
  | _ => rintro ⟨⟩; rfl

/-- The execution of a command word neither reads nor writes the host's side. -/
theorem execute_withHostSide {cw : Word} {s u : State} (p : State) (h : execute cw s = .next u) :
    execute cw (s.withHostSide p) = .next (u.withHostSide p) := by
  revert h
  unfold execute
  split
  · exact exec_withHostSide p
  · rintro ⟨⟩; rfl

/-! A pending command -/

/-- An access of the host is made and leaves the list, or waits and stays there. -/
theorem hostAct_host (op : HostOp) (rest : List HostOp) (s : State) :
    (hostAct op rest s).host = rest ∨ (hostAct op rest s).host = s.host := by
  cases op with
  | read | write => exact .inl rfl
  | wait =>
    simp only [hostAct]
    split
    · exact .inr rfl
    · exact .inl rfl
  | setRst level => cases level <;> exact .inl rfl

/-- The host's turn adds no access to those the host has still to make. -/
theorem hostTurn_host_subset (s : State) : (hostTurn s).host ⊆ s.host := by
  unfold hostTurn
  split
  · exact List.Subset.refl _
  · rename_i op rest hh
    rcases hostAct_host op rest s with h | h
    · rw [h, hh]; exact List.subset_cons_self op rest
    · rw [h]; exact List.Subset.refl _

/-- With no reset to come, a step with latency left uses up one and moves only the host's side
(40_command_control.md R118, 20_memory.md R70). -/
theorem step_busy_noReset {s : State} {cw : Word} {n : Nat} (hn : NoReset s) (hp : s.pend = some cw)
    (hl : s.latency = n + 1) :
    ∃ p, step s = .next (s.withHostSide p) ∧ p.latency = n ∧ NoReset (s.withHostSide p) := by
  obtain ⟨hr, hhost⟩ := hn
  have hbusy : (s.setLatency n).busy = true := busy_eq_true.2 ⟨cw, hp⟩
  have hsub := hostTurn_host_subset (s.setLatency n)
  rw [step_busy hr hp hl]
  rcases hostTurn_busy hbusy with ⟨ops, d, rs, ht⟩ | ⟨rest, hreset, -⟩
  · rw [ht] at hsub ⊢
    exact ⟨{ s with latency := n, host := ops, draws := d, reads := rs }, rfl, rfl, hr,
      fun level hlevel => hhost level (hsub hlevel)⟩
  · have hmem : HostOp.setRst false ∈ s.host := by
      rw [← State.setLatency_host s n, hreset]; exact List.mem_cons_self
    exact absurd hmem (hhost false)

/-- With no reset to come, a pending command completes after its latency, up to the host's side as its execution on the
state it was pending in (40_command_control.md R118, R119). -/
theorem run_pending {cw : Word} {n : Nat} {s u : State} (hn : NoReset s) (hp : s.pend = some cw) (hl : s.latency = n)
    (hu : execute cw s = .next u) : ∃ p, Host.Core.run Sys2Proof.core (n + 1) s = .next (u.withHostSide p).retire := by
  induction n generalizing s u with
  | zero => exact ⟨u, coreRun_succ (M := Sys2Proof.core) (step_of_ready ⟨hn.1, hp, hl⟩ hu) 0⟩
  | succ n ih =>
    obtain ⟨p, hstep, hlatency, hnoReset⟩ := step_busy_noReset hn hp hl
    obtain ⟨q, hq⟩ := ih hnoReset hp hlatency (execute_withHostSide p hu)
    exact ⟨q, (coreRun_succ (M := Sys2Proof.core) hstep (n + 1)).trans hq⟩

/-- Settles O9, by induction on the latency left: the steps before the completion move only the host's side, which the
command does not read. -/
theorem pendingCommandCompletesFromHeldRegisters : Obligations.PendingCommandCompletesFromHeldRegisters := by
  intro s cw hn hp
  obtain ⟨u, hu⟩ := everyCommandWordCompletes cw s
  obtain ⟨p, hrun⟩ := run_pending hn hp rfl hu
  exact ⟨_, u, hrun, hu, rfl, rfl, rfl, rfl, rfl, rfl, rfl, rfl, rfl⟩

end Sys2Proof.Machine
end

section
/-! PROOFS. The field GF(2^8): GFMul as the product of polynomials modulo x^8+x^4+x^3+x+1, the laws of the field, and
the multiplication tables (41_gf_arith.md). -/

namespace Sys2Proof.Machine

/-! Both multiplications add up a term for each bit that is 1: such a sum is linear in the terms and in the bits. -/

theorem ite_xor_term {w : Nat} (c : Bool) (p p' t t' : BitVec w) :
    (if c then p ^^^ t else p) ^^^ (if c then p' ^^^ t' else p') =
      if c then p ^^^ p' ^^^ (t ^^^ t') else p ^^^ p' := by
  cases c with
  | false => rfl
  | true => show p ^^^ t ^^^ (p' ^^^ t') = p ^^^ p' ^^^ (t ^^^ t'); ac_rfl

theorem ite_xor_bit {w : Nat} (c c' : Bool) (p p' t : BitVec w) :
    (if c then p ^^^ t else p) ^^^ (if c' then p' ^^^ t else p') =
      if c ^^ c' then p ^^^ p' ^^^ t else p ^^^ p' := by
  match c, c' with
  | false, false => rfl
  | false, true => exact (BitVec.xor_assoc ..).symm
  | true, false => show p ^^^ t ^^^ p' = p ^^^ p' ^^^ t; ac_rfl
  | true, true =>
    calc p ^^^ t ^^^ (p' ^^^ t)
      _ = p ^^^ p' ^^^ (t ^^^ t) := by ac_rfl
      _ = p ^^^ p' := by rw [BitVec.xor_self, BitVec.xor_zero]

theorem xtime_eq_ite (a : Byte) : xtime a = if a.getLsbD 7 then a <<< 1 ^^^ 0x1B else a <<< 1 := by
  unfold xtime
  split
  · rfl
  · exact BitVec.xor_zero

theorem xtime_xor (a b : Byte) : xtime (a ^^^ b) = xtime a ^^^ xtime b := by
  rw [xtime_eq_ite, xtime_eq_ite, xtime_eq_ite, ite_xor_bit, BitVec.getLsbD_xor, BitVec.shiftLeft_xor_distrib]

theorem gfLoop_xor_left (k : Nat) (p p' a a' b : Byte) :
    gfLoop k (p ^^^ p') (a ^^^ a') b = gfLoop k p a b ^^^ gfLoop k p' a' b := by
  induction k generalizing p p' a a' b with
  | zero => rfl
  | succ k ih => rw [gfLoop, gfLoop, gfLoop, ← ih, ite_xor_term, xtime_xor]

theorem gfLoop_xor_right (k : Nat) (p p' a b b' : Byte) :
    gfLoop k (p ^^^ p') a (b ^^^ b') = gfLoop k p a b ^^^ gfLoop k p' a b' := by
  induction k generalizing p p' a b b' with
  | zero => rfl
  | succ k ih => rw [gfLoop, gfLoop, gfLoop, ← ih, ite_xor_bit, BitVec.getLsbD_xor, BitVec.ushiftRight_xor_distrib]

theorem gfMul_xor_left (a a' b : Byte) : gfMul (a ^^^ a') b = gfMul a b ^^^ gfMul a' b :=
  gfLoop_xor_left 8 0 0 a a' b

theorem gfMul_xor_right (a b b' : Byte) : gfMul a (b ^^^ b') = gfMul a b ^^^ gfMul a b' :=
  gfLoop_xor_right 8 0 0 a b b'

/-- The term of `polyMul` for the place `k`, added to the sum `p`. -/
def polyMulStep (a b p : BitVec 16) (k : Nat) : BitVec 16 := if b.getLsbD k then p ^^^ a <<< k else p

theorem polyMul_eq_foldl (a b : BitVec 16) : polyMul a b = (List.range 16).foldl (polyMulStep a b) 0 := rfl

theorem polyMul_xor_left (a a' b : BitVec 16) : polyMul (a ^^^ a') b = polyMul a b ^^^ polyMul a' b := by
  rw [polyMul_eq_foldl, polyMul_eq_foldl, polyMul_eq_foldl]
  refine List.foldl_hom₂ _ (· ^^^ ·) (polyMulStep a b) (polyMulStep a' b) (polyMulStep (a ^^^ a') b) 0 0
    fun p p' k => ?_
  rw [polyMulStep, polyMulStep, polyMulStep, ite_xor_term, BitVec.shiftLeft_xor_distrib]

theorem polyMul_xor_right (a b b' : BitVec 16) : polyMul a (b ^^^ b') = polyMul a b ^^^ polyMul a b' := by
  rw [polyMul_eq_foldl, polyMul_eq_foldl, polyMul_eq_foldl]
  refine List.foldl_hom₂ _ (· ^^^ ·) (polyMulStep a b) (polyMulStep a b') (polyMulStep a (b ^^^ b')) 0 0
    fun p p' k => ?_
  rw [polyMulStep, polyMulStep, polyMulStep, ite_xor_bit, BitVec.getLsbD_xor]

/-! Induction over a byte as a sum of monomials x^i -/

theorem setWidth_succ_eq_xor_twoPow {x : Byte} {n : Nat} (h : x.getLsbD n = true) :
    (x.setWidth (n + 1)).setWidth 8 = (x.setWidth n).setWidth 8 ^^^ BitVec.twoPow 8 n := by
  ext i hi
  rcases lt_trichotomy i n with hlt | rfl | hgt
  · simp [hlt, hlt.le, hlt.ne]
  · simpa [BitVec.getLsbD_setWidth] using h
  · simp [BitVec.getLsbD_setWidth, hgt.not_ge, hgt.not_gt, hgt.ne']

/-- What holds of every monomial, and of a sum when it holds of both terms, holds of every byte. -/
theorem byte_induction {P : Byte → Prop} (monomial : ∀ i : Fin 8, P (BitVec.twoPow 8 i))
    (xor : ∀ a b, P a → P b → P (a ^^^ b)) (x : Byte) : P x := by
  have hzero : P 0 := by
    have h := xor _ _ (monomial 0) (monomial 0)
    rwa [BitVec.xor_self] at h
  have hlow : ∀ n ≤ 8, P ((x.setWidth n).setWidth 8) := by
    intro n
    induction n with
    | zero => exact fun _ => BitVec.eq_nil (x.setWidth 0) ▸ hzero
    | succ n ih =>
      intro hn
      cases hbit : x.getLsbD n with
      | false =>
        rw [BitVec.setWidth_setWidth_succ_eq_setWidth_setWidth_of_getLsbD_false hbit]
        exact ih (by omega)
      | true =>
        rw [setWidth_succ_eq_xor_twoPow hbit]
        exact xor _ _ (ih (by omega)) (monomial ⟨n, hn⟩)
  exact BitVec.setWidth_eq x ▸ hlow 8 le_rfl

/-- A relation of bytes that is linear on both sides is one of monomials. -/
theorem byte_induction₂ {P : Byte → Byte → Prop}
    (monomials : ∀ i j : Fin 8, P (BitVec.twoPow 8 i) (BitVec.twoPow 8 j))
    (left : ∀ a a' b, P a b → P a' b → P (a ^^^ a') b) (right : ∀ a b b', P a b → P a b' → P a (b ^^^ b'))
    (a b : Byte) : P a b :=
  byte_induction (fun i => byte_induction (monomials i) (right _) b) (fun a a' => left a a' b) a

theorem xtime_twoPow (i : Fin 7) : xtime (BitVec.twoPow 8 i.castSucc) = BitVec.twoPow 8 i.succ := by
  revert i
  decide

/-- Every byte is a sum of doublings of 1. -/
theorem byte_induction_xtime {P : Byte → Prop} (one : P 1) (double : ∀ a, P a → P (xtime a))
    (xor : ∀ a b, P a → P b → P (a ^^^ b)) (x : Byte) : P x := by
  refine byte_induction (fun i => ?_) xor x
  induction i using Fin.induction with
  | zero => exact one
  | succ i ih => exact xtime_twoPow i ▸ double _ ih

/-! GFMul is the remainder of the product of the polynomials (R130) -/

/-- `p` is what is left of the polynomial `x` modulo x^8+x^4+x^3+x+1 (41_gf_arith.md R130). -/
def ReducesTo (x : BitVec 16) (p : Byte) : Prop :=
  ∃ q : Byte, x = polyMul (q.setWidth 16) 0x11B ^^^ p.setWidth 16

theorem ReducesTo.xor {x x' : BitVec 16} {p p' : Byte} (h : ReducesTo x p) (h' : ReducesTo x' p') :
    ReducesTo (x ^^^ x') (p ^^^ p') := by
  obtain ⟨q, rfl⟩ := h
  obtain ⟨q', rfl⟩ := h'
  refine ⟨q ^^^ q', ?_⟩
  rw [BitVec.setWidth_xor, BitVec.setWidth_xor, polyMul_xor_left]
  ac_rfl

/-- The quotient of x^n by x^8+x^4+x^3+x+1, for n up to 14: the whole part of x^(n-8) + x^(n-12) + x^(n-13). -/
def monomialQuotient (n : Nat) : Byte := ((1#16 <<< n) >>> 8 ^^^ (1#16 <<< n) >>> 12 ^^^ (1#16 <<< n) >>> 13).setWidth 8

theorem polyMul_twoPow (i j : Fin 8) :
    polyMul ((BitVec.twoPow 8 i).setWidth 16) ((BitVec.twoPow 8 j).setWidth 16) =
      polyMul ((monomialQuotient (i + j)).setWidth 16) 0x11B ^^^
        (gfMul (BitVec.twoPow 8 i) (BitVec.twoPow 8 j)).setWidth 16 := by
  revert i j
  decide +kernel

theorem polyMul_reducesTo_gfMul (a b : Byte) : ReducesTo (polyMul (a.setWidth 16) (b.setWidth 16)) (gfMul a b) := by
  induction a, b using byte_induction₂ with
  | monomials i j => exact ⟨_, polyMul_twoPow i j⟩
  | left a a' b h h' => rw [BitVec.setWidth_xor, polyMul_xor_left, gfMul_xor_left]; exact h.xor h'
  | right a b b' h h' => rw [BitVec.setWidth_xor, polyMul_xor_right, gfMul_xor_right]; exact h.xor h'

/-- Settles O12: both products are linear in each factor, so that it is a matter of the products of monomials. -/
theorem gfMulIsPolynomialProductModulo : Obligations.GfMulIsPolynomialProductModulo := by
  intro a b s
  obtain ⟨q, hq⟩ := polyMul_reducesTo_gfMul a b
  exact ⟨gfMul a b, q, rfl, hq⟩

/-! The laws of the field (R132) -/

@[simp] theorem gfMul_one (a : Byte) : gfMul a 1 = a := BitVec.zero_xor

@[simp] theorem gfMul_zero (a : Byte) : gfMul a 0 = 0 := rfl

theorem gfMul_comm (a b : Byte) : gfMul a b = gfMul b a := by
  induction a, b using byte_induction₂ with
  | monomials i j => revert i j; decide +kernel
  | left _ _ _ h h' | right _ _ _ h h' => rw [gfMul_xor_left, gfMul_xor_right, h, h']

theorem gfMul_xtime (a b : Byte) : gfMul a (xtime b) = xtime (gfMul a b) := by
  induction a, b using byte_induction₂ with
  | monomials i j => revert i j; decide +kernel
  | left a a' b h h' => rw [gfMul_xor_left, gfMul_xor_left, xtime_xor, h, h']
  | right a b b' h h' => rw [gfMul_xor_right, xtime_xor, xtime_xor, gfMul_xor_right, h, h']

theorem gfMul_assoc (a b c : Byte) : gfMul (gfMul a b) c = gfMul a (gfMul b c) := by
  induction c using byte_induction_xtime with
  | one => rw [gfMul_one, gfMul_one]
  | double c ih => rw [gfMul_xtime, gfMul_xtime, gfMul_xtime, ih]
  | xor c c' ih ih' => rw [gfMul_xor_right, gfMul_xor_right, gfMul_xor_right, ih, ih']

/-- The inverse of a non-zero byte, read out of the S-box: SBOX holds the affine images of the inverses
(42_substitution.md R152), and this undoes the affine map. -/
def gfInverse (a : Byte) : Byte :=
  (sbox a).rotateLeft 1 ^^^ (sbox a).rotateLeft 3 ^^^ (sbox a).rotateLeft 6 ^^^ 0x05

theorem gfMul_gfInverse : ∀ {a : Byte}, a ≠ 0 → gfMul a (gfInverse a) = 1 := by
  decide +kernel

theorem gfInverse_gfMul_cancel {a : Byte} (ha : a ≠ 0) (b : Byte) : gfMul (gfInverse a) (gfMul a b) = b :=
  calc gfMul (gfInverse a) (gfMul a b)
    _ = gfMul b (gfMul a (gfInverse a)) := by rw [← gfMul_assoc, gfMul_comm, gfMul_comm (gfInverse a)]
    _ = b := by rw [gfMul_gfInverse ha, gfMul_one]

theorem eq_gfInverse {a b : Byte} (ha : a ≠ 0) (h : gfMul a b = 1) : b = gfInverse a := by
  rw [← gfInverse_gfMul_cancel ha b, h, gfMul_one]

theorem gfMul_eq_zero {a b : Byte} : gfMul a b = 0 ↔ a = 0 ∨ b = 0 := by
  refine ⟨fun h => or_iff_not_imp_left.2 fun ha => ?_, ?_⟩
  · rw [← gfInverse_gfMul_cancel ha b, h, gfMul_zero]
  · rintro (rfl | rfl)
    · rw [gfMul_comm, gfMul_zero]
    · exact gfMul_zero a

theorem mul2_eq_gfMul (a : Byte) : mul2 a = gfMul a 2 := by
  rw [gfMul_comm]
  exact Option.some.inj (mulTable_eq_gfMul 0 a)

/-- Settles O13: associativity by induction over doublings, and the clauses on inverses and zero by the inverse that the
S-box holds. -/
theorem gfMulFieldLaws : Obligations.GfMulFieldLaws := fun a b c =>
  ⟨gfMul_one a, gfMul_zero a, gfMul_comm a b, mul2_eq_gfMul a, gfMul_assoc a b c, gfMul_xor_right a b c,
    fun ha => ⟨gfInverse a, gfMul_gfInverse ha, fun _ => eq_gfInverse ha⟩, gfMul_eq_zero⟩

/-! Multiplication by table (R134) -/

/-- Settles O14: GF_TBL writes the product by the table's constant, and products commute. -/
theorem gfTblAgreesWithGfMul : Obligations.GfTblAgreesWithGfMul := by
  intro t x s
  have hcomm : gfMul x tableConstants[t] = gfMul tableConstants[t] x := gfMul_comm ..
  exact ⟨(exec_gfTbl t x s).trans (hcomm ▸ rfl), hcomm⟩

end Sys2Proof.Machine
end

section
/-! PROOFS. The substitution tables: SBOX as the affine image of the field inverse, SBOX and INVSBOX as inverses of each
other, and the round constants (42_substitution.md). -/

namespace Sys2Proof.Machine

/-! The commands of the substitution unit (R157, R158, R159) -/

theorem exec_subByte (b : Byte) (s : State) : exec (.subByte b) s = .next ((s.setResult (sbox b)).setErr .ok) := rfl

theorem exec_invSubByte (b : Byte) (s : State) :
    exec (.invSubByte b) s = .next ((s.setResult (invSbox b)).setErr .ok) := rfl

theorem exec_rcon (j : BitVec 4) (s : State) :
    exec (.rcon j) s = .next ((s.setResult (rcon j.toNat)).setErr .ok) := rfl

/-! SBOX is the affine image of the inverse (R152) -/

/-- The affine map of the S-box (42_substitution.md R152). -/
def affineImage (b : Byte) : Byte :=
  b ^^^ b.rotateLeft 1 ^^^ b.rotateLeft 2 ^^^ b.rotateLeft 3 ^^^ b.rotateLeft 4 ^^^ 0x63

/-- What `gfInverse` does to an entry of SBOX is undone by the affine map, and this for every byte in the entry's place:
with r for the rotation by 1, (r + r^3 + r^6)(1 + r + r^2 + r^3 + r^4) = 1 modulo r^8 = 1. -/
theorem affineImage_gfInverse (a : Byte) : affineImage (gfInverse a) = sbox a := by
  unfold gfInverse
  generalize sbox a = y
  revert y
  decide +kernel

theorem gfInverse_zero : gfInverse 0 = 0 := by decide

/-- Settles O17: the byte is the inverse that SBOX holds, which is 0 for 0. -/
theorem subByteIsAffineImageOfInverse : Obligations.SubByteIsAffineImageOfInverse := by
  intro a s
  refine ⟨gfInverse a, ?_, ?_⟩
  · by_cases ha : a = 0
    · exact .inl ⟨ha, ha ▸ gfInverse_zero⟩
    · exact .inr ⟨ha, gfMul_gfInverse ha, fun _ => eq_gfInverse ha⟩
  · rw [exec_subByte, ← affineImage_gfInverse]
    rfl

/-! SBOX and INVSBOX undo each other (R155) -/

theorem leftInverse_invSbox_sbox : Function.LeftInverse invSbox sbox := by
  unfold Function.LeftInverse
  decide +kernel

/-- An injective map of the bytes is surjective, so that INVSBOX is also undone by SBOX. -/
theorem rightInverse_invSbox_sbox : Function.RightInverse invSbox sbox :=
  leftInverse_invSbox_sbox.rightInverse_of_surjective
    (Finite.injective_iff_surjective.1 leftInverse_invSbox_sbox.injective)

theorem sbox_ne_self : ∀ b : Byte, sbox b ≠ b := by
  decide +kernel

/-- The two-cycle of SBOX (42_substitution.md R155). -/
theorem sbox_sbox_eq_self : ∀ {b : Byte}, sbox (sbox b) = b ↔ b = 0x73 ∨ b = 0x8F := by
  decide +kernel

theorem sbox_eq_invSbox {b : Byte} : sbox b = invSbox b ↔ b = 0x73 ∨ b = 0x8F := by
  rw [← leftInverse_invSbox_sbox.injective.eq_iff, rightInverse_invSbox_sbox b, sbox_sbox_eq_self]

/-- Settles O18: the entries of SBOX and INVSBOX for the byte are the two results. -/
theorem subByteAndInvSubByteAreMutualInverses : Obligations.SubByteAndInvSubByteAreMutualInverses := by
  intro b s
  refine ⟨sbox b, invSbox b, exec_subByte b s, ?_, exec_invSubByte b s, ?_, sbox_ne_self b, sbox_eq_invSbox, ?_, ?_⟩
  · rw [exec_invSubByte, leftInverse_invSbox_sbox b]; rfl
  · rw [exec_subByte, rightInverse_invSbox_sbox b]; rfl
  · rintro rfl; decide
  · rintro rfl; decide

/-! The round constants (R156) -/

theorem rcon_succ : ∀ {j : BitVec 4}, j ≠ 15 → rcon (j + 1).toNat = gfMul (rcon j.toNat) 0x02 := by
  decide

/-- Settles O19: the constants are the entries of RCON. -/
theorem rconDoublesFromOne : Obligations.RconDoublesFromOne :=
  ⟨fun j => rcon j.toNat, exec_rcon, rfl, fun _ => rcon_succ⟩

end Sys2Proof.Machine
end

section
/-! PROOFS. The key schedule: what EXPAND_KEY writes, what it reads, and that nothing else but reset writes the schedule
(43_key_schedule.md). -/

namespace Sys2Proof.Machine

/-! The bytes of the word functions (R170, R171, R172) -/

theorem byteOf_xor (v w : Word) (j : Fin 4) : byteOf (v ^^^ w) j = byteOf v j ^^^ byteOf w j :=
  BitVec.extractLsb'_xor

theorem byteOf_rotWord (w : Word) (j : Fin 4) : byteOf (rotWord w) j = byteOf w (j + 1) := by
  rw [rotWord, byteOf_packWord]
  fin_cases j <;> rfl

theorem byteOf_subWord (w : Word) (j : Fin 4) : byteOf (subWord w) j = sbox (byteOf w j) := by
  rw [subWord, byteOf_packWord]
  fin_cases j <;> rfl

theorem byteOf_roundConstant (b : Byte) (j : Fin 4) : byteOf (packWord b 0 0 0) j = if j = 0 then b else 0 := by
  rw [byteOf_packWord]
  fin_cases j <;> rfl

/-- The term of the recurrence, byte by byte (R172). -/
theorem byteOf_scheduleTemp (nk i : Nat) (w : Word) (j : Fin 4) :
    byteOf (scheduleTemp nk i w) j =
      if i % nk = 0 then sbox (byteOf w (j + 1)) ^^^ (if j = 0 then rcon (i / nk - 1) else 0)
      else if 6 < nk ∧ i % nk = 4 then sbox (byteOf w j)
      else byteOf w j := by
  simp only [scheduleTemp, apply_ite (byteOf · j), byteOf_xor, byteOf_subWord, byteOf_rotWord, byteOf_roundConstant]

/-! The words of an expansion (R172) -/

/-- The words so far stay where they are, as the recurrence reads them. -/
theorem getD_extendSchedule_of_lt (nk n : Nat) {w : List Word} {i : Nat} (h : i < w.length) :
    (extendSchedule nk n w).getD i 0 = w.getD i 0 := by
  rw [List.getD_eq_getElem?_getD, List.getD_eq_getElem?_getD, getElem?_extendSchedule nk n w h]

/-- The words added after `w` meet the recurrence within the whole expansion, as its words before `i` are those that
`nextWord` was given. -/
theorem getD_extendSchedule (nk n : Nat) {w : List Word} {i : Nat} (hnk : 0 < nk) (hw : 0 < w.length)
    (hi : w.length ≤ i) (hn : i < w.length + n) :
    (extendSchedule nk n w).getD i 0 = (extendSchedule nk n w).getD (i - nk) 0 ^^^
      scheduleTemp nk i ((extendSchedule nk n w).getD (i - 1) 0) := by
  induction n generalizing w with
  | zero => omega
  | succ n ih =>
    have hlen : (w ++ [nextWord nk w]).length = w.length + 1 := List.length_append
    rw [extendSchedule]
    obtain rfl | hlt := hi.eq_or_lt
    · have hnew : (extendSchedule nk n (w ++ [nextWord nk w])).getD w.length 0 = nextWord nk w := by
        rw [getD_extendSchedule_of_lt nk n (by omega), List.getD_append_right _ _ _ _ le_rfl, Nat.sub_self]
        rfl
      have hprefix : ∀ k < w.length, (extendSchedule nk n (w ++ [nextWord nk w])).getD k 0 = w.getD k 0 := by
        intro k hk
        rw [getD_extendSchedule_of_lt nk n (by omega), List.getD_append _ _ _ _ hk]
      rw [hnew, hprefix _ (by omega), hprefix _ (by omega)]
      rfl
    · exact ih (w := w ++ [nextWord nk w]) (by omega) (by omega) (by omega)

/-- The first words of the expansion are the key's (R172). -/
theorem getD_keyExpansion_of_lt {nk i : Nat} {key : List Word} (h : i < key.length) :
    (keyExpansion nk key).getD i 0 = key.getD i 0 :=
  getD_extendSchedule_of_lt _ _ h

/-- The recurrence of the key expansion (R172). -/
theorem getD_keyExpansion {nk i : Nat} {key : List Word} (hnk : 0 < nk) (hkey : key.length = nk) (hi : nk ≤ i)
    (hn : i < 4 * (nk + 7)) :
    (keyExpansion nk key).getD i 0 = (keyExpansion nk key).getD (i - nk) 0 ^^^
      scheduleTemp nk i ((keyExpansion nk key).getD (i - 1) 0) :=
  getD_extendSchedule _ _ hnk (by omega) (by omega) (by omega)

/-- The key words are the KEY registers from KEY0 on (R177). -/
theorem getD_heldKey {nk : Nat} (s : State) (k : Fin 8) (h : k.val < nk) : (heldKey nk s).getD k.val 0 = s.key[k] := by
  simp [heldKey, List.getD_eq_getElem?_getD, h]

/-! The command (R174) -/

/-- EXPAND_KEY with a legal key length writes the expansion of the held key (R174). -/
theorem exec_expandKey {s : State} {nk : Nat} (h : keyWords s.keylen = some nk) :
    exec .expandKey s = .next ((s.setSchedule (keyExpansion nk (heldKey nk s))).setErr .ok) := by
  simp only [exec, execExpandKey, h, complete_eq]

/-- EXPAND_KEY with any other key length writes ERR alone (60_exceptions.md R252). -/
theorem exec_expandKey_of_none {s : State} (h : keyWords s.keylen = none) :
    exec .expandKey s = .next (s.setErr .invalidKeyLength) := by
  simp only [exec, execExpandKey, h, raiseErr_eq]

/-- Settles O20: RKRAM takes the expansion of the held key, whose first words are the key's and whose later words meet
the recurrence. -/
theorem expandKeyWritesTheSchedule : Obligations.ExpandKeyWritesTheSchedule := by
  intro s nk h
  have hk : keyWords s.keylen = some nk := keyWords_eq_some.2 h
  have hnk : nk = 4 ∨ nk = 6 ∨ nk = 8 := keyWords_variant hk
  have hkey : (heldKey nk s).length = nk := length_heldKey (by omega) s
  have hlen : (keyExpansion nk (heldKey nk s)).length = 4 * (nk + 7) := length_keyExpansion hkey (by omega)
  have hram := setSchedule_rkram_getElem s (keyExpansion nk (heldKey nk s))
  have hbelow : ∀ i : Fin 60, i.val < 4 * (nk + 7) →
      (s.setSchedule (keyExpansion nk (heldKey nk s))).rkram[i] = (keyExpansion nk (heldKey nk s)).getD i.val 0 :=
    fun i hi => (hram i.val i.isLt).trans (if_pos (by omega))
  refine ⟨(s.setSchedule (keyExpansion nk (heldKey nk s))).rkram, ?_, fun i k hik hlt => ?_,
    fun i p q hi hlt hp hq j => ?_, fun i hi => ?_⟩
  · rw [exec_expandKey hk, ← hlen]; rfl
  · rw [hbelow i (by omega), hik, getD_keyExpansion_of_lt (by omega), getD_heldKey s k hlt]
  · have hvariant : 6 < nk ↔ nk = 8 := by omega
    rw [hbelow i hlt, hbelow p (by omega), hbelow q (by omega), hp, hq, getD_keyExpansion (by omega) hkey hi hlt,
      byteOf_xor, byteOf_scheduleTemp]
    simp only [hvariant]
  · exact (hram i.val i.isLt).trans (if_neg (by omega))

/-! What the command reads (R177) -/

/-- A legal key length is the number of bytes in Nk words (R174, 00_scope.md R8). -/
theorem toNat_of_keyWords {k : BitVec 6} {nk : Nat} (h : keyWords k = some nk) : k.toNat = 4 * nk := by
  rcases keyWords_eq_some.1 h with ⟨rfl, rfl⟩ | ⟨rfl, rfl⟩ | ⟨rfl, rfl⟩ <;> rfl

/-- The key words read are those of the registers below Nk. -/
theorem heldKey_congr {nk : Nat} {s t : State} (h : ∀ k : Fin 8, k.val < nk → s.key[k] = t.key[k]) :
    heldKey nk s = heldKey nk t := by
  refine List.ext_getElem (by simp [heldKey]) fun i hs _ => ?_
  have hi : i < nk ∧ i < 8 := by simpa [heldKey] using hs
  simpa [heldKey] using h ⟨i, hi.2⟩ hi.1

/-- Settles O22: a legal length declares exactly the registers that are read, and with any other length none is read. -/
theorem expandKeyReadsOnlyTheDeclaredKey : Obligations.ExpandKeyReadsOnlyTheDeclaredKey := by
  intro s other hagree
  cases hk : keyWords s.keylen with
  | none => exact ⟨_, exec_expandKey_of_none hk, exec_expandKey_of_none (s := { s with key := other }) hk⟩
  | some nk =>
    have hheld : heldKey nk s = heldKey nk { s with key := other } :=
      heldKey_congr fun k hlt => hagree k (by rw [toNat_of_keyWords hk]; omega)
    refine ⟨_, exec_expandKey hk, ?_⟩
    rw [exec_expandKey (s := { s with key := other }) hk, ← hheld]
    rfl

/-! What writes the schedule (R176) -/

/-- A command word keeps the schedule, or is that of EXPAND_KEY and completes without an error (R176). -/
theorem execute_schedule_or_expandKey {cw : Word} {s t : State} (h : execute cw s = .next t) :
    (t.rkram = s.rkram ∧ t.swords = s.swords) ∨ (cw = 0x00000001 ∧ t.err = .ok) := by
  rcases execute_inversion h with rfl | ⟨i, hdecode, hexec⟩
  · exact .inl ⟨rfl, rfl⟩
  · rcases exec_schedule hexec with ⟨hsw, hram⟩ | ⟨nk, rfl, -, rfl⟩
    · exact .inl ⟨hram, hsw⟩
    · have hword : encode .expandKey = cw := (decodedWordIsTheEncoding cw .expandKey hdecode).2
      exact .inr ⟨hword.symm, rfl⟩

/-- Settles O53, by the cases of a step: an acceptance and the host's accesses keep the schedule. -/
theorem onlyExpandKeyAndResetChangeTheSchedule : Obligations.OnlyExpandKeyAndResetChangeTheSchedule := by
  intro s t hstep
  cases stepCase_of_step hstep with
  | inReset hrst _ _ => exact .inr (.inr hrst)
  | completed cw u hready hu ht =>
    subst ht
    rcases execute_schedule_or_expandKey hu with hkept | ⟨rfl, herr⟩
    · exact .inl hkept
    · exact .inr (.inl ⟨hready, herr⟩)
  | accepted v rest _ _ _ ht => subst ht; exact .inl ⟨rfl, rfl⟩
  | moved _ _ _ _ _ _ hswords hrkram => exact .inl ⟨hrkram, hswords⟩

end Sys2Proof.Machine
end

section
/-! PROOFS. The forward pipeline: what each round-step command makes of DATA, and ENCRYPT as its round-step commands one
after another (44_forward_pipeline.md). -/

namespace Sys2Proof.Machine

/-! The round operations, byte by byte (R190 to R193) -/

theorem stateByte_subBytes (d : Block) (r c : Fin 4) : stateByte (subBytes d) r c = sbox (stateByte d r c) :=
  stateByte_ofMatrix ..

theorem stateByte_shiftRows (d : Block) (r c : Fin 4) : stateByte (shiftRows d) r c = stateByte d r (c + r) :=
  stateByte_ofMatrix ..

theorem stateByte_mixColumns (d : Block) (r c : Fin 4) :
    stateByte (mixColumns d) r c =
      mixByte (stateByte d 0 c) (stateByte d 1 c) (stateByte d 2 c) (stateByte d 3 c) r :=
  stateByte_ofMatrix ..

/-- ShiftRows in block-byte form: byte `n` stands in row `n mod 4` and column `n div 4` (R191). -/
theorem blockByte_shiftRows (d : Block) {n m : Fin 16} (h : m.val = (n.val + 4 * (n.val % 4)) % 16) :
    blockByte (shiftRows d) n = blockByte d m := by
  have hcolumn : m.val / 4 = (n.val / 4 + n.val % 4) % 4 := by
    rw [h, Nat.mod_mul_right_div_self _ 4 4, Nat.add_mul_div_left _ _ (Nat.succ_pos 3)]
  rw [blockByte, stateByte_shiftRows, blockByte]
  congr 1
  · exact Fin.ext (show n.val % 4 = m.val % 4 by omega)
  · exact Fin.ext hcolumn.symm

/-- The bytes of one column by row, with products in place of the tables (R192, 41_gf_arith.md R134). -/
theorem mixByte_eq_gfMul (c0 c1 c2 c3 : Byte) :
    mixByte c0 c1 c2 c3 0 = gfMul 2 c0 ^^^ gfMul 3 c1 ^^^ c2 ^^^ c3 ∧
    mixByte c0 c1 c2 c3 1 = c0 ^^^ gfMul 2 c1 ^^^ gfMul 3 c2 ^^^ c3 ∧
    mixByte c0 c1 c2 c3 2 = c0 ^^^ c1 ^^^ gfMul 2 c2 ^^^ gfMul 3 c3 ∧
    mixByte c0 c1 c2 c3 3 = gfMul 3 c0 ^^^ c1 ^^^ c2 ^^^ gfMul 2 c3 := by
  have hmul2 : ∀ x, mul2 x = gfMul 2 x := fun x => Option.some.inj (mulTable_eq_gfMul 0 x)
  have hmul3 : ∀ x, mul3 x = gfMul 3 x := fun x => Option.some.inj (mulTable_eq_gfMul 1 x)
  simp only [mixByte, hmul2, hmul3, and_self]

theorem ramWord_of_val_eq (w : Vector Word 60) {i : Fin 60} {k : Nat} (h : i.val = k) : ramWord w k = w[i] := by
  subst h
  exact dif_pos i.isLt

/-! The commands (R196 to R200) -/

/-- The state after a command that completes with `d` in DATA: only DATA and ERR have changed. -/
def State.completeWith (s : State) (d : Block) : State := (s.setData d).setErr .ok

theorem exec_subBytes (s : State) : exec .subBytes s = .next (s.completeWith (subBytes s.data)) := rfl

theorem exec_shiftRows (s : State) : exec .shiftRows s = .next (s.completeWith (shiftRows s.data)) := rfl

theorem exec_mixColumns (s : State) : exec .mixColumns s = .next (s.completeWith (mixColumns s.data)) := rfl

theorem exec_addRoundKey {r : BitVec 4} {s : State} (h : 4 * r.toNat + 3 < s.swords.toNat) :
    exec (.addRoundKey r) s = .next (s.completeWith (addRoundKey s.data s.rkram r.toNat)) := by
  simp only [exec, execAddRoundKey, roundKeyCheck_eq_none.2 h]
  exact complete_eq _

theorem exec_encrypt {nr : BitVec 4} {s : State} (hb : s.blklen = 16) (hs : s.swords.toNat = 4 * (nr.toNat + 1)) :
    exec (.encrypt nr) s = .next (s.completeWith (cipher s.rkram nr.toNat s.data)) := by
  simp only [exec, execEncrypt, cipherCheck_eq_none.2 ⟨hb, hs⟩]
  exact complete_eq _

/-- Settles O23: DATA takes the images of its bytes under SBOX. -/
theorem subBytesStepOnData : Obligations.SubBytesStepOnData := fun s =>
  ⟨subBytes s.data, exec_subBytes s, stateByte_subBytes s.data⟩

/-- Settles O24: the column that a byte comes from is the sum of its column and its row in `Fin 4`. -/
theorem shiftRowsStepOnData : Obligations.ShiftRowsStepOnData := by
  refine fun s => ⟨shiftRows s.data, exec_shiftRows s, fun r c c' hcol => ?_, fun n m => blockByte_shiftRows s.data⟩
  obtain rfl : c' = c + r := Fin.ext hcol
  exact stateByte_shiftRows s.data r c

/-- Settles O25: the tables MUL2 and MUL3 hold the products by 2 and 3. -/
theorem mixColumnsStepOnData : Obligations.MixColumnsStepOnData := by
  refine fun s => ⟨mixColumns s.data, exec_mixColumns s, ?_⟩
  rintro c _ _ _ _ rfl rfl rfl rfl
  simp only [stateByte_mixColumns]
  exact mixByte_eq_gfMul ..

/-- Settles O26: column `c` takes word `4 * rnd + c` of the round-key RAM, and XOR acts on each byte of a word. -/
theorem addRoundKeyStepOnData : Obligations.AddRoundKeyStepOnData := by
  refine fun rnd s hheld => ⟨addRoundKey s.data s.rkram rnd.toNat, exec_addRoundKey hheld, fun c i hi => ?_⟩
  have hcolumn : (addRoundKey s.data s.rkram rnd.toNat)[c] = s.data[c] ^^^ s.rkram[i] := by
    rw [addRoundKey_column, ramWord_of_val_eq _ hi]
  exact ⟨hcolumn, fun k => (congrArg (byteOf · k) hcolumn).trans (byteOf_xor ..)⟩

/-! Sequences of commands that write only DATA and ERR -/

theorem execAll_cons {i : Instr} {s t : State} (h : exec i s = .next t) (is : List Instr) :
    execAll (i :: is) s = execAll is t := by
  rw [execAll, h]

theorem execAll_append {is : List Instr} {s t : State} (h : execAll is s = .next t) (js : List Instr) :
    execAll (is ++ js) s = execAll js t := by
  induction is generalizing s with
  | nil => cases h; rfl
  | cons i is ih =>
    rw [execAll] at h
    split at h
    next u hu => rw [List.cons_append, execAll_cons hu, ih h]
    next => cases h
    next => cases h

/-- From `s` with any block in DATA and ERR = 0, the commands complete one after another, and all they do is to apply
`f` to DATA. -/
def MapsData (s : State) (is : List Instr) (f : Block → Block) : Prop :=
  ∀ d, execAll is (s.completeWith d) = .next (s.completeWith (f d))

theorem MapsData.nil {s : State} : MapsData s [] id := fun _ => rfl

theorem MapsData.cons {s : State} {i : Instr} {is : List Instr} {f g : Block → Block}
    (hi : ∀ d, exec i (s.completeWith d) = .next (s.completeWith (f d))) (his : MapsData s is g) :
    MapsData s (i :: is) (g ∘ f) :=
  fun d => (execAll_cons (hi d) is).trans (his (f d))

/-- The commands of the rounds of a list fold the rounds over DATA. -/
theorem MapsData.flatMap {α : Type} {s : State} {l : List α} {body : α → List Instr}
    {round : Block → α → Block} (h : ∀ a ∈ l, MapsData s (body a) (round · a)) :
    MapsData s (l.flatMap body) (l.foldl round) := by
  intro d
  induction l generalizing d with
  | nil => rfl
  | cons a l ih =>
    obtain ⟨hround, hrest⟩ := List.forall_mem_cons.1 h
    rw [List.flatMap_cons, execAll_append (hround d)]
    exact ih hrest (round d a)

/-! ENCRYPT is its round steps (R194, R201) -/

/-- The commands of one of the rounds 1 to Nr-1. -/
theorem mapsData_forwardRound {s : State} {r : BitVec 4} (h : 4 * r.toNat + 3 < s.swords.toNat) :
    MapsData s [.subBytes, .shiftRows, .mixColumns, .addRoundKey r] (forwardRound s.rkram · r.toNat) :=
  .cons (fun _ => exec_subBytes _) <| .cons (fun _ => exec_shiftRows _) <| .cons (fun _ => exec_mixColumns _) <|
    .cons (fun _ => exec_addRoundKey h) .nil

/-- The commands of the last round, which has no MixColumns. -/
theorem mapsData_lastRound {s : State} {r : BitVec 4} (h : 4 * r.toNat + 3 < s.swords.toNat) :
    MapsData s [.subBytes, .shiftRows, .addRoundKey r]
      fun d => addRoundKey (shiftRows (subBytes d)) s.rkram r.toNat :=
  .cons (fun _ => exec_subBytes _) <| .cons (fun _ => exec_shiftRows _) <| .cons (fun _ => exec_addRoundKey h) .nil

/-- The commands of the rounds 1 to Nr-1, where the schedule holds a round key for each. -/
theorem mapsData_forwardRounds {s : State} {nr : BitVec 4} (h : s.swords.toNat = 4 * (nr.toNat + 1)) :
    MapsData s
      ((List.range' 1 (nr.toNat - 1)).flatMap
        fun rnd => [.subBytes, .shiftRows, .mixColumns, .addRoundKey (BitVec.ofNat 4 rnd)])
      ((List.range' 1 (nr.toNat - 1)).foldl (forwardRound s.rkram)) := by
  refine .flatMap fun rnd hrnd => ?_
  have hlt : rnd < nr.toNat := by rw [List.mem_range'_1] at hrnd; omega
  have hnat : (BitVec.ofNat 4 rnd).toNat = rnd := Nat.mod_eq_of_lt (hlt.trans nr.isLt)
  have hround := mapsData_forwardRound (s := s) (r := BitVec.ofNat 4 rnd) (by omega)
  rwa [hnat] at hround

/-- Settles O30: the initial key addition, the rounds 1 to Nr-1 and the last round are the parts of Cipher. -/
theorem encryptIsItsRoundSteps : Obligations.EncryptIsItsRoundSteps := by
  intro nr s hblk hsw
  refine ⟨_, exec_encrypt hblk hsw, ?_⟩
  have hinitial := exec_addRoundKey (r := 0) (s := s) (show 3 < s.swords.toNat by omega)
  rw [encryptSteps, List.append_assoc, List.singleton_append, execAll_cons hinitial,
    execAll_append (mapsData_forwardRounds hsw _)]
  exact mapsData_lastRound (by omega) _

end Sys2Proof.Machine
end

section
/-! PROOFS. The inverse pipeline: what each inverse round-step command makes of DATA and undoes, DECRYPT as its
round-step commands one after another, and ENCRYPT and DECRYPT as inverses of each other (45_inverse_pipeline.md). -/

namespace Sys2Proof.Machine

/-! The inverse round operations, byte by byte (R220 to R222) -/

theorem stateByte_invShiftRows (d : Block) (r c : Fin 4) : stateByte (invShiftRows d) r c = stateByte d r (c - r) :=
  stateByte_ofMatrix ..

theorem stateByte_invSubBytes (d : Block) (r c : Fin 4) : stateByte (invSubBytes d) r c = invSbox (stateByte d r c) :=
  stateByte_ofMatrix ..

theorem stateByte_invMixColumns (d : Block) (r c : Fin 4) :
    stateByte (invMixColumns d) r c =
      invMixByte (stateByte d 0 c) (stateByte d 1 c) (stateByte d 2 c) (stateByte d 3 c) r :=
  stateByte_ofMatrix ..

/-- The bytes of one column by row, with products in place of the tables (R222, 41_gf_arith.md R134). -/
theorem invMixByte_eq_gfMul (c0 c1 c2 c3 : Byte) :
    invMixByte c0 c1 c2 c3 0 = gfMul 14 c0 ^^^ gfMul 11 c1 ^^^ gfMul 13 c2 ^^^ gfMul 9 c3 ∧
    invMixByte c0 c1 c2 c3 1 = gfMul 9 c0 ^^^ gfMul 14 c1 ^^^ gfMul 11 c2 ^^^ gfMul 13 c3 ∧
    invMixByte c0 c1 c2 c3 2 = gfMul 13 c0 ^^^ gfMul 9 c1 ^^^ gfMul 14 c2 ^^^ gfMul 11 c3 ∧
    invMixByte c0 c1 c2 c3 3 = gfMul 11 c0 ^^^ gfMul 13 c1 ^^^ gfMul 9 c2 ^^^ gfMul 14 c3 := by
  have hmul9 : ∀ x, mul9 x = gfMul 9 x := fun x => Option.some.inj (mulTable_eq_gfMul 2 x)
  have hmul11 : ∀ x, mul11 x = gfMul 11 x := fun x => Option.some.inj (mulTable_eq_gfMul 3 x)
  have hmul13 : ∀ x, mul13 x = gfMul 13 x := fun x => Option.some.inj (mulTable_eq_gfMul 4 x)
  have hmul14 : ∀ x, mul14 x = gfMul 14 x := fun x => Option.some.inj (mulTable_eq_gfMul 5 x)
  simp only [invMixByte, hmul9, hmul11, hmul13, hmul14, and_self]

/-! Both column matrices are circulant: each row is the row above, turned by one place -/

/-- The circulant matrix with first row `m`, applied to the column `c`. -/
def circulant (m c : Fin 4 → Byte) (r : Fin 4) : Byte :=
  gfMul (m 0) (c r) ^^^ gfMul (m 1) (c (r + 1)) ^^^ gfMul (m 2) (c (r + 2)) ^^^ gfMul (m 3) (c (r + 3))

/-- The first row of a product of circulant matrices, which is again circulant: entry `k` adds up the products of an
entry `i` of `m` and the entry `k - i` of `m'`, indexes modulo 4. -/
def circulantProduct (m m' : Fin 4 → Byte) (k : Fin 4) : Byte :=
  gfMul (m 0) (m' k) ^^^ gfMul (m 1) (m' (k + 3)) ^^^ gfMul (m 2) (m' (k + 2)) ^^^ gfMul (m 3) (m' (k + 1))

@[simp] theorem one_gfMul (b : Byte) : gfMul 1#8 b = b := (gfMul_comm ..).trans (gfMul_one b)

@[simp] theorem zero_gfMul (b : Byte) : gfMul 0#8 b = 0 := (gfMul_comm ..).trans (gfMul_zero b)

theorem circulant_circulant (m m' c : Fin 4 → Byte) :
    circulant m (circulant m' c) = circulant (circulantProduct m m') c := by
  funext r
  fin_cases r <;>
    simp [circulant, circulantProduct, gfMul_xor_left, gfMul_xor_right, gfMul_assoc] <;>
    ac_rfl

/-- The matrix with first row 1, 0, 0, 0 is the identity. -/
theorem circulant_identity (c : Fin 4 → Byte) : circulant ![1, 0, 0, 0] c = c := by
  funext r
  simp [circulant]

theorem mixByte_eq_circulant (c : Fin 4 → Byte) : mixByte (c 0) (c 1) (c 2) (c 3) = circulant ![2, 3, 1, 1] c := by
  obtain ⟨h0, h1, h2, h3⟩ := mixByte_eq_gfMul (c 0) (c 1) (c 2) (c 3)
  funext r
  fin_cases r <;> simp [circulant, h0, h1, h2, h3] <;> ac_rfl

theorem invMixByte_eq_circulant (c : Fin 4 → Byte) :
    invMixByte (c 0) (c 1) (c 2) (c 3) = circulant ![14, 11, 13, 9] c := by
  obtain ⟨h0, h1, h2, h3⟩ := invMixByte_eq_gfMul (c 0) (c 1) (c 2) (c 3)
  funext r
  fin_cases r <;> simp [circulant, h0, h1, h2, h3] <;> ac_rfl

theorem circulantProduct_invMix_mix : circulantProduct ![14, 11, 13, 9] ![2, 3, 1, 1] = ![1, 0, 0, 0] := by
  decide

theorem circulantProduct_mix_invMix : circulantProduct ![2, 3, 1, 1] ![14, 11, 13, 9] = ![1, 0, 0, 0] := by
  decide

/-! Every round operation and its inverse undo each other, in both orders (R220 to R222, R224) -/

theorem leftInverse_invShiftRows_shiftRows : Function.LeftInverse invShiftRows shiftRows := fun d =>
  block_ext fun r c => by rw [stateByte_invShiftRows, stateByte_shiftRows, sub_add_cancel]

theorem rightInverse_invShiftRows_shiftRows : Function.RightInverse invShiftRows shiftRows := fun d =>
  block_ext fun r c => by rw [stateByte_shiftRows, stateByte_invShiftRows, add_sub_cancel_right]

theorem leftInverse_invSubBytes_subBytes : Function.LeftInverse invSubBytes subBytes := fun d =>
  block_ext fun r c => by rw [stateByte_invSubBytes, stateByte_subBytes, leftInverse_invSbox_sbox]

theorem rightInverse_invSubBytes_subBytes : Function.RightInverse invSubBytes subBytes := fun d =>
  block_ext fun r c => by rw [stateByte_subBytes, stateByte_invSubBytes, rightInverse_invSbox_sbox]

theorem stateByte_mixColumns_eq_circulant (d : Block) (r c : Fin 4) :
    stateByte (mixColumns d) r c = circulant ![2, 3, 1, 1] (stateByte d · c) r :=
  (stateByte_mixColumns d r c).trans (congrFun (mixByte_eq_circulant (stateByte d · c)) r)

theorem stateByte_invMixColumns_eq_circulant (d : Block) (r c : Fin 4) :
    stateByte (invMixColumns d) r c = circulant ![14, 11, 13, 9] (stateByte d · c) r :=
  (stateByte_invMixColumns d r c).trans (congrFun (invMixByte_eq_circulant (stateByte d · c)) r)

theorem leftInverse_invMixColumns_mixColumns : Function.LeftInverse invMixColumns mixColumns := fun d =>
  block_ext fun r c => by
    simp only [stateByte_invMixColumns_eq_circulant, stateByte_mixColumns_eq_circulant]
    rw [circulant_circulant, circulantProduct_invMix_mix, circulant_identity]

theorem rightInverse_invMixColumns_mixColumns : Function.RightInverse invMixColumns mixColumns := fun d =>
  block_ext fun r c => by
    simp only [stateByte_invMixColumns_eq_circulant, stateByte_mixColumns_eq_circulant]
    rw [circulant_circulant, circulantProduct_mix_invMix, circulant_identity]

/-- Adding the same round key twice changes nothing (44_forward_pipeline.md R193). -/
theorem addRoundKey_addRoundKey (d : Block) (w : Vector Word 60) (rnd : Nat) :
    addRoundKey (addRoundKey d w rnd) w rnd = d := by
  ext c hc
  have hcolumn := fun d => addRoundKey_column d w rnd ⟨c, hc⟩
  simp only [Fin.getElem_fin] at hcolumn
  rw [hcolumn, hcolumn, BitVec.xor_assoc, BitVec.xor_self, BitVec.xor_zero]

/-- InvShiftRows in block-byte form: ShiftRows takes block byte `m` from where InvShiftRows puts it (R220). -/
theorem blockByte_invShiftRows (d : Block) {n m : Fin 16} (h : (m.val + 4 * (n.val % 4)) % 16 = n.val) :
    blockByte (invShiftRows d) n = blockByte d m := by
  have hforward := blockByte_shiftRows (invShiftRows d) (n := m) (m := n) (by omega)
  rw [← hforward, rightInverse_invShiftRows_shiftRows d]

/-! The commands (R225 to R228) -/

theorem exec_invSubBytes (s : State) : exec .invSubBytes s = .next (s.completeWith (invSubBytes s.data)) := rfl

theorem exec_invShiftRows (s : State) : exec .invShiftRows s = .next (s.completeWith (invShiftRows s.data)) := rfl

theorem exec_invMixColumns (s : State) : exec .invMixColumns s = .next (s.completeWith (invMixColumns s.data)) := rfl

theorem exec_decrypt {nr : BitVec 4} {s : State} (hb : s.blklen = 16) (hs : s.swords.toNat = 4 * (nr.toNat + 1)) :
    exec (.decrypt nr) s = .next (s.completeWith (invCipher s.rkram nr.toNat s.data)) := by
  simp only [exec, execDecrypt, cipherCheck_eq_none.2 ⟨hb, hs⟩]
  exact complete_eq _

/-- A command whose map of DATA undoes that of the command before it leaves only ERR changed. -/
theorem execAll_pair_of_leftInverse {i j : Instr} {s : State} {f g : Block → Block}
    (hi : exec i s = .next (s.completeWith (f s.data)))
    (hj : ∀ d, exec j (s.completeWith d) = .next (s.completeWith (g d)))
    (h : Function.LeftInverse g f) : execAll [i, j] s = .next { s with err := .ok } := by
  rw [execAll_cons hi, execAll_cons (hj _), h s.data]
  rfl

/-- Settles O27: the column that a byte comes from is the difference of its column and its row in `Fin 4`. -/
theorem invShiftRowsStepOnData : Obligations.InvShiftRowsStepOnData := by
  refine fun s => ⟨⟨invShiftRows s.data, exec_invShiftRows s, fun r c c' hcol => ?_,
    fun n m => blockByte_invShiftRows s.data⟩,
    execAll_pair_of_leftInverse (exec_shiftRows s) (fun _ => exec_invShiftRows _) leftInverse_invShiftRows_shiftRows⟩
  obtain rfl : c' + r = c := Fin.ext hcol
  rw [stateByte_invShiftRows, add_sub_cancel_right]

/-- Settles O28: DATA takes the images of its bytes under INVSBOX, which undoes SBOX. -/
theorem invSubBytesStepOnData : Obligations.InvSubBytesStepOnData := fun s =>
  ⟨⟨invSubBytes s.data, exec_invSubBytes s, stateByte_invSubBytes s.data⟩,
    execAll_pair_of_leftInverse (exec_subBytes s) (fun _ => exec_invSubBytes _) leftInverse_invSubBytes_subBytes⟩

/-- Settles O29: the tables hold the products by 9, 11, 13 and 14, and the two circulant matrices are inverses. -/
theorem invMixColumnsStepOnData : Obligations.InvMixColumnsStepOnData := by
  refine fun s => ⟨⟨invMixColumns s.data, exec_invMixColumns s, ?_⟩,
    execAll_pair_of_leftInverse (exec_mixColumns s) (fun _ => exec_invMixColumns _)
      leftInverse_invMixColumns_mixColumns⟩
  rintro c _ _ _ _ rfl rfl rfl rfl
  simp only [stateByte_invMixColumns]
  exact invMixByte_eq_gfMul ..

/-! DECRYPT is its round steps (R223, R229) -/

/-- The commands of one of the rounds Nr-1 down to 1. -/
theorem mapsData_inverseRound {s : State} {r : BitVec 4} (h : 4 * r.toNat + 3 < s.swords.toNat) :
    MapsData s [.invShiftRows, .invSubBytes, .addRoundKey r, .invMixColumns] (inverseRound s.rkram · r.toNat) := by
  unfold inverseRound
  exact .cons (fun _ => exec_invShiftRows _) <| .cons (fun _ => exec_invSubBytes _) <|
    .cons (fun _ => exec_addRoundKey h) <| .cons (fun _ => exec_invMixColumns _) .nil

/-- The commands of the last round, which has no InvMixColumns. -/
theorem mapsData_lastInverseRound {s : State} {r : BitVec 4} (h : 4 * r.toNat + 3 < s.swords.toNat) :
    MapsData s [.invShiftRows, .invSubBytes, .addRoundKey r]
      fun d => addRoundKey (invSubBytes (invShiftRows d)) s.rkram r.toNat :=
  .cons (fun _ => exec_invShiftRows _) <| .cons (fun _ => exec_invSubBytes _) <|
    .cons (fun _ => exec_addRoundKey h) .nil

/-- The commands of the rounds Nr-1 down to 1, where the schedule holds a round key for each. -/
theorem mapsData_inverseRounds {s : State} {nr : BitVec 4} (h : s.swords.toNat = 4 * (nr.toNat + 1)) :
    MapsData s
      ((List.range' 1 (nr.toNat - 1)).reverse.flatMap
        fun rnd => [.invShiftRows, .invSubBytes, .addRoundKey (BitVec.ofNat 4 rnd), .invMixColumns])
      ((List.range' 1 (nr.toNat - 1)).reverse.foldl (inverseRound s.rkram)) := by
  refine .flatMap fun rnd hrnd => ?_
  have hlt : rnd < nr.toNat := by rw [List.mem_reverse, List.mem_range'_1] at hrnd; omega
  have hnat : (BitVec.ofNat 4 rnd).toNat = rnd := Nat.mod_eq_of_lt (hlt.trans nr.isLt)
  have hround := mapsData_inverseRound (s := s) (r := BitVec.ofNat 4 rnd) (by omega)
  rwa [hnat] at hround

/-- Settles O31: the key addition Nr, the rounds Nr-1 down to 1 and the last round are the parts of InvCipher. -/
theorem decryptIsItsRoundSteps : Obligations.DecryptIsItsRoundSteps := by
  intro nr s hblk hsw
  refine ⟨_, exec_decrypt hblk hsw, ?_⟩
  have hinitial := exec_addRoundKey (r := nr) (s := s) (by omega)
  rw [decryptSteps, List.append_assoc, List.singleton_append, execAll_cons hinitial,
    execAll_append (mapsData_inverseRounds hsw _)]
  exact mapsData_lastInverseRound (r := 0) (show 3 < s.swords.toNat by omega) _

/-! Cipher and InvCipher undo each other (R224) -/

/-- Rounds that undo others one by one undo a whole list of them in reverse order. -/
theorem foldl_reverse_foldl {α β : Type} {f g : β → α → β} (h : ∀ b a, g (f b a) a = b) (l : List α) (b : β) :
    l.reverse.foldl g (l.foldl f b) = b := by
  induction l generalizing b with
  | nil => rfl
  | cons a l ih => rw [List.foldl_cons, List.reverse_cons, List.foldl_append, ih, List.foldl_cons, h, List.foldl_nil]

/-- What undoes one of the rounds 1 to Nr-1 of the cipher. -/
def undoForwardRound (w : Vector Word 60) (s : Block) (rnd : Nat) : Block :=
  invSubBytes (invShiftRows (invMixColumns (addRoundKey s w rnd)))

theorem undoForwardRound_forwardRound (w : Vector Word 60) (d : Block) (rnd : Nat) :
    undoForwardRound w (forwardRound w d rnd) rnd = d := by
  rw [forwardRound, undoForwardRound, addRoundKey_addRoundKey, leftInverse_invMixColumns_mixColumns,
    leftInverse_invShiftRows_shiftRows, leftInverse_invSubBytes_subBytes]

theorem forwardRound_undoForwardRound (w : Vector Word 60) (d : Block) (rnd : Nat) :
    forwardRound w (undoForwardRound w d rnd) rnd = d := by
  rw [undoForwardRound, forwardRound, rightInverse_invSubBytes_subBytes, rightInverse_invShiftRows_shiftRows,
    rightInverse_invMixColumns_mixColumns, addRoundKey_addRoundKey]

/-- InvCipher, cut where the rounds of Cipher are cut: InvShiftRows and InvSubBytes move from the start of each round to
the end of the round before it. -/
theorem invCipher_eq_undoForwardRounds (w : Vector Word 60) (nr : Nat) (d : Block) :
    invCipher w nr d =
      addRoundKey ((List.range' 1 (nr - 1)).reverse.foldl (undoForwardRound w)
        (invSubBytes (invShiftRows (addRoundKey d w nr)))) w 0 :=
  congrArg (addRoundKey · w 0)
    (List.foldl_hom (fun b => invSubBytes (invShiftRows b)) (g₁ := inverseRound w) fun _ _ => rfl).symm

theorem leftInverse_invCipher_cipher (w : Vector Word 60) (nr : Nat) :
    Function.LeftInverse (invCipher w nr) (cipher w nr) := by
  intro d
  rw [invCipher_eq_undoForwardRounds, cipher, addRoundKey_addRoundKey, leftInverse_invShiftRows_shiftRows,
    leftInverse_invSubBytes_subBytes, foldl_reverse_foldl (undoForwardRound_forwardRound w), addRoundKey_addRoundKey]

theorem rightInverse_invCipher_cipher (w : Vector Word 60) (nr : Nat) :
    Function.RightInverse (invCipher w nr) (cipher w nr) := by
  intro d
  have hrounds := foldl_reverse_foldl (forwardRound_undoForwardRound w) (List.range' 1 (nr - 1)).reverse
  rw [List.reverse_reverse] at hrounds
  rw [invCipher_eq_undoForwardRounds, cipher, addRoundKey_addRoundKey, hrounds, rightInverse_invSubBytes_subBytes,
    rightInverse_invShiftRows_shiftRows, addRoundKey_addRoundKey]

/-- Settles O32: the second command passes the same checks as the first and reads the same round keys. -/
theorem encryptAndDecryptAreMutualInverses : Obligations.EncryptAndDecryptAreMutualInverses := fun nr s hblk hsw =>
  ⟨execAll_pair_of_leftInverse (exec_encrypt hblk hsw) (fun _ => exec_decrypt hblk hsw)
      (leftInverse_invCipher_cipher s.rkram nr.toNat),
    execAll_pair_of_leftInverse (exec_decrypt hblk hsw) (fun _ => exec_encrypt hblk hsw)
      (rightInverse_invCipher_cipher s.rkram nr.toNat)⟩

end Sys2Proof.Machine
end

section
/-! PROOFS. Errors: the check that fails a command and the code it raises, the cause of each code, and what neither an
error nor another core can move (60_exceptions.md). -/

namespace Sys2Proof.Machine

/-! The checks, by the code they raise -/

theorem blklen_toNat_eq {s : State} : s.blklen.toNat = 16 ↔ s.blklen = 16 := BitVec.toNat_inj (y := 16#5)

theorem cipherCheck_eq_invalidBlockLength {nr : BitVec 4} {s : State} :
    cipherCheck nr s = some .invalidBlockLength ↔ s.blklen ≠ 16 := by
  by_cases hblk : s.blklen = 16 <;> simp_all [cipherCheck, blklen_toNat_eq]

theorem cipherCheck_eq_scheduleMismatch {nr : BitVec 4} {s : State} :
    cipherCheck nr s = some .scheduleMismatch ↔ s.blklen = 16 ∧ s.swords.toNat ≠ 4 * (nr.toNat + 1) := by
  by_cases hblk : s.blklen = 16 <;> simp_all [cipherCheck, blklen_toNat_eq]

theorem roundKeyCheck_eq_scheduleMismatch {r : BitVec 4} {s : State} :
    roundKeyCheck r s = some .scheduleMismatch ↔ s.swords.toNat ≤ 4 * r.toNat + 3 := by
  simp [roundKeyCheck]

theorem roundKeyCheck_ne_invalidBlockLength (r : BitVec 4) (s : State) :
    roundKeyCheck r s ≠ some .invalidBlockLength := by
  simp [roundKeyCheck]

theorem checks_ne_invalidKeyLength (n : BitVec 4) (s : State) :
    cipherCheck n s ≠ some .invalidKeyLength ∧ roundKeyCheck n s ≠ some .invalidKeyLength := by
  simp [cipherCheck, roundKeyCheck, ite_eq_iff]

/-! The failing check of a command -/

/-- The code of the command's failing check, none if every check passes (60_exceptions.md R251). -/
def failingCheck (s : State) : Instr → Option ErrCode
  | .expandKey => if keyWords s.keylen = none then some .invalidKeyLength else none
  | .encrypt nr => cipherCheck nr s
  | .decrypt nr => cipherCheck nr s
  | .addRoundKey r => roundKeyCheck r s
  | .gfTbl t x => if mulTable t x = none then some .illegalCommand else none
  | _ => none

/-- A command whose check fails writes the code into ERR and nothing else, and any other leaves ERR = 0
(40_command_control.md R114, R115). -/
theorem exec_failingCheck (s : State) (i : Instr) :
    (∃ e, failingCheck s i = some e ∧ exec i s = .next (s.setErr e)) ∨
    (failingCheck s i = none ∧ ∃ t, exec i s = .next t ∧ t.err = .ok) := by
  cases i with
  | expandKey =>
    cases hk : keyWords s.keylen with
    | none => exact .inl ⟨_, if_pos hk, exec_expandKey_of_none hk⟩
    | some nk => exact .inr ⟨by simp [failingCheck, hk], _, exec_expandKey hk, rfl⟩
  | encrypt nr =>
    cases hc : cipherCheck nr s with
    | none =>
      obtain ⟨hblk, hsw⟩ := cipherCheck_eq_none.1 hc
      exact .inr ⟨hc, _, exec_encrypt hblk hsw, rfl⟩
    | some e => exact .inl ⟨e, hc, by simp only [exec, execEncrypt, hc, raiseErr_eq]⟩
  | decrypt nr =>
    cases hc : cipherCheck nr s with
    | none =>
      obtain ⟨hblk, hsw⟩ := cipherCheck_eq_none.1 hc
      exact .inr ⟨hc, _, exec_decrypt hblk hsw, rfl⟩
    | some e => exact .inl ⟨e, hc, by simp only [exec, execDecrypt, hc, raiseErr_eq]⟩
  | addRoundKey r =>
    cases hc : roundKeyCheck r s with
    | none => exact .inr ⟨hc, _, exec_addRoundKey (roundKeyCheck_eq_none.1 hc), rfl⟩
    | some e => exact .inl ⟨e, hc, by simp only [exec, execAddRoundKey, hc, raiseErr_eq]⟩
  | gfTbl t x =>
    cases ht : mulTable t x with
    | none => exact .inl ⟨_, if_pos ht, by simp only [exec, execGfTbl, ht, raiseErr_eq]⟩
    | some b =>
      exact .inr ⟨by simp [failingCheck, ht], (s.setResult b).setErr .ok,
        by simp only [exec, execGfTbl, ht, complete_eq], rfl⟩
  | _ => exact .inr ⟨rfl, _, rfl, rfl⟩

/-- The code that a command leaves in ERR, other than 0, is that of its failing check. -/
theorem err_eq_iff_failingCheck {i : Instr} {s t : State} {e : ErrCode} (h : exec i s = .next t) (he : e ≠ .ok) :
    t.err = e ↔ failingCheck s i = some e := by
  obtain ⟨e', hf, ht⟩ | ⟨hf, u, hu, hok⟩ := exec_failingCheck s i
  · cases ht.symm.trans h
    simp [hf]
  · cases hu.symm.trans h
    simp [hf, hok, he.symm]

/-- A failing check writes its code into ERR and nothing else. -/
theorem exec_of_failingCheck {i : Instr} {s : State} {e : ErrCode} (hf : failingCheck s i = some e) :
    exec i s = .next (s.setErr e) := by
  obtain ⟨e', hf', ht⟩ | ⟨hf', -⟩ := exec_failingCheck s i
  · cases hf'.symm.trans hf
    exact ht
  · cases hf'.symm.trans hf

/-- A command writes ERR alone, with a code other than 0, exactly if that is the code of its failing check. -/
theorem failingCheck_eq_some_iff {i : Instr} {s : State} {e : ErrCode} (he : e ≠ .ok) :
    failingCheck s i = some e ↔ exec i s = .next (s.setErr e) :=
  ⟨exec_of_failingCheck, fun h => (err_eq_iff_failingCheck h he).1 rfl⟩

/-- Settles O34: the failing check is the one of the held schedule, once the block length has passed its own. -/
theorem scheduleMismatchExactlyWhereNotHeld : Obligations.ScheduleMismatchExactlyWhereNotHeld := by
  intro nr s
  have hcode : ErrCode.scheduleMismatch ≠ .ok := nofun
  refine ⟨fun hblk => ?_,
    roundKeyCheck_eq_scheduleMismatch.symm.trans (failingCheck_eq_some_iff (i := .addRoundKey nr) hcode)⟩
  have hcheck : s.swords.toNat ≠ 4 * (nr.toNat + 1) ↔ cipherCheck nr s = some .scheduleMismatch :=
    (cipherCheck_eq_scheduleMismatch.trans (and_iff_right hblk)).symm
  exact ⟨hcheck.trans (failingCheck_eq_some_iff (i := .encrypt nr) hcode),
    hcheck.trans (failingCheck_eq_some_iff (i := .decrypt nr) hcode)⟩

/-- Settles O33: the block length is the first of the checks of both commands (60_exceptions.md R257). -/
theorem blockLengthIsCheckedFirst : Obligations.BlockLengthIsCheckedFirst := by
  intro nr s hblk
  have hcheck : cipherCheck nr s = some .invalidBlockLength := cipherCheck_eq_invalidBlockLength.2 hblk
  exact ⟨exec_of_failingCheck (i := .encrypt nr) hcheck, exec_of_failingCheck (i := .decrypt nr) hcheck⟩

/-- Settles O21: no other length names a variant of the key schedule. -/
theorem expandKeyRefusesOtherKeyLengths : Obligations.ExpandKeyRefusesOtherKeyLengths :=
  fun _ h16 h24 h32 => exec_expandKey_of_none (keyWords_eq_none.2 ⟨h16, h24, h32⟩)

/-! The cause of each code (R251) -/

theorem code_toNat_le (e : ErrCode) : e.code.toNat ≤ 4 := by cases e <;> decide

theorem code_inj {e e' : ErrCode} : e.code = e'.code ↔ e = e' := by
  cases e <;> cases e' <;> decide

theorem failingCheck_eq_invalidKeyLength {i : Instr} {s : State} :
    failingCheck s i = some .invalidKeyLength ↔ i = .expandKey ∧ s.keylen ≠ 16 ∧ s.keylen ≠ 24 ∧ s.keylen ≠ 32 := by
  cases i with
  | expandKey => simp [failingCheck, keyWords_eq_none]
  | encrypt n | decrypt n | addRoundKey n => simp [failingCheck, checks_ne_invalidKeyLength]
  | _ => simp [failingCheck]

theorem failingCheck_eq_invalidBlockLength {i : Instr} {s : State} :
    failingCheck s i = some .invalidBlockLength ↔ (∃ n, i = .encrypt n ∨ i = .decrypt n) ∧ s.blklen ≠ 16 := by
  cases i with
  | encrypt n | decrypt n => simp [failingCheck, cipherCheck_eq_invalidBlockLength]
  | addRoundKey r => simp [failingCheck, roundKeyCheck_ne_invalidBlockLength]
  | _ => simp [failingCheck]

theorem failingCheck_eq_scheduleMismatch {i : Instr} {s : State} :
    failingCheck s i = some .scheduleMismatch ↔
      (∃ n, (i = .encrypt n ∨ i = .decrypt n) ∧ s.blklen = 16 ∧ s.swords.toNat ≠ 4 * (n.toNat + 1)) ∨
      ∃ n, i = .addRoundKey n ∧ s.swords.toNat ≤ 4 * n.toNat + 3 := by
  cases i with
  | encrypt n | decrypt n => simp [failingCheck, cipherCheck_eq_scheduleMismatch]
  | addRoundKey r => simp [failingCheck, roundKeyCheck_eq_scheduleMismatch]
  | _ => simp [failingCheck]

/-- Settles O37: an illegal word decodes to no command, and a legal one to a well-formed command, whose code is that of
its failing check. -/
theorem errorCodesHaveExactlyTheirCauses : Obligations.ErrorCodesHaveExactlyTheirCauses := by
  intro cw s t h
  by_cases hillegal : IllegalWord cw
  · have hundecoded : ∀ i, decode cw ≠ .ok i := not_exists.1 (illegalWord_iff.1 hillegal)
    cases (execute_of_illegalWord hillegal s).symm.trans h
    simp [hundecoded, hillegal, ErrCode.code]
  · obtain ⟨i, hi⟩ := not_not.1 (mt illegalWord_iff.2 hillegal)
    have hexec : exec i s = .next t := (execute_of_decode hi s).symm.trans h
    obtain ⟨u, hu, hlegal⟩ := exec_wellFormed (decodedWordIsTheEncoding cw i hi).1 s
    cases hu.symm.trans hexec
    have hraised : ∀ e : ErrCode, e ≠ .ok → (t.err.code = e.code ↔ failingCheck s i = some e) :=
      fun e he => code_inj.trans (err_eq_iff_failingCheck hexec he)
    simp only [hi, Except.ok.injEq]
    exact ⟨iff_of_false (mt (code_inj (e' := .illegalCommand)).1 hlegal) hillegal,
      (hraised .invalidKeyLength nofun).trans failingCheck_eq_invalidKeyLength,
      (hraised .invalidBlockLength nofun).trans failingCheck_eq_invalidBlockLength,
      (hraised .scheduleMismatch nofun).trans failingCheck_eq_scheduleMismatch, code_toNat_le t.err⟩

/-! An idle core, and several cores (R267, R268) -/

/-- Settles O10: a step with nothing pending is the host's turn, which does nothing with no access left. -/
theorem idleCoreHoldsAllState : Obligations.IdleCoreHoldsAllState := by
  rintro s hr ⟨hhost, hpend⟩
  rw [step_idle hr hpend, hostTurn, hhost]

/-- A step of instance `k` puts that core's own next state in its place, or moves nothing if there is no instance `k`. -/
theorem stepAt_inversion {k : Nat} {cores after : List State} (h : stepAt k cores = .next after) :
    (cores[k]? = none ∧ after = cores) ∨
    ∃ s t, cores[k]? = some s ∧ step s = .next t ∧ after = cores.set k t := by
  induction cores generalizing k after with
  | nil =>
    rw [stepAt] at h
    cases h; exact .inl ⟨rfl, rfl⟩
  | cons s rest ih =>
    cases k with
    | zero =>
      rw [stepAt] at h
      split at h
      · rename_i t ht
        cases h
        exact .inr ⟨s, t, rfl, ht, rfl⟩
      all_goals cases h
    | succ k =>
      rw [stepAt] at h
      split at h
      · rename_i ts hts
        cases h
        obtain ⟨hnone, rfl⟩ | ⟨s', t, hs', ht, rfl⟩ := ih hts
        · exact .inl ⟨hnone, rfl⟩
        · exact .inr ⟨s', t, hs', ht, rfl⟩
      all_goals cases h

/-- Settles O58: a replaced element of a list keeps its length and every other element. -/
theorem coresShareNothing : Obligations.CoresShareNothing := by
  intro k cores after h
  obtain ⟨hnone, rfl⟩ | ⟨s, t, hs, ht, rfl⟩ := stepAt_inversion h
  · exact ⟨rfl, fun s hs => absurd hs (by simp [hnone]), fun _ _ => rfl⟩
  · refine ⟨List.length_set, fun s' hs' => ⟨t, ?_, ?_⟩, fun j hj => List.getElem?_set_ne hj.symm⟩
    · cases hs.symm.trans hs'
      exact ht
    · obtain ⟨hk, -⟩ := List.getElem?_eq_some_iff.1 hs
      exact List.getElem?_set_self hk

end Sys2Proof.Machine
end

section
/-! PROOFS. Reset and what is observed: the core in reset, the drive of the pin, and the result of a run
(70_reset_and_hazards.md). -/

namespace Sys2Proof.Machine

/-! A step in reset -/

/-- A step while `rst_n` is 0 is the reset turn, whatever was pending (70_reset_and_hazards.md R280). -/
theorem step_inReset {s : State} (hr : s.rstN = false) : step s = resetTurn s := by
  simp [step, advance, hr]

theorem resetTurn_nil {s : State} (hh : s.host = []) : resetTurn s = .next s.holdReset := by
  simp [resetTurn, hh]

theorem resetTurn_setRst {s : State} {level : Bool} {rest : List HostOp} (hh : s.host = .setRst level :: rest) :
    resetTurn s = .next ((s.holdReset.setRstN level).setHost rest) := by
  simp [resetTurn, hh]

/-- Settles O49: of the host's acts in reset, the drive of the pin alone is no fault. -/
theorem accessInResetIsStuck : Obligations.AccessInResetIsStuck := by
  intro s op rest hr hh hop
  rw [step_inReset hr, resetTurn, hh]
  cases op with
  | setRst level => exact absurd rfl (hop level)
  | read | write | wait => rfl

/-- Settles O8: in reset a step holds the core, drives the pin or is the fault of an access; out of reset it is the host's
turn or the completion of the pending word, and every word completes. -/
theorem stepStopsOnlyOnAccessInReset : Obligations.StepStopsOnlyOnAccessInReset := by
  intro s
  cases hr : s.rstN with
  | false =>
    cases hh : s.host with
    | nil => exact .inl ⟨_, (step_inReset hr).trans (resetTurn_nil hh)⟩
    | cons op rest =>
      by_cases hop : ∃ level, op = .setRst level
      · obtain ⟨level, rfl⟩ := hop
        exact .inl ⟨_, (step_inReset hr).trans (resetTurn_setRst hh)⟩
      · have haccess : ∀ level, op ≠ .setRst level := not_exists.1 hop
        exact .inr ⟨rfl, accessInResetIsStuck s op rest hr hh haccess, op, rest, rfl, haccess⟩
  | true =>
    left
    cases hp : s.pend with
    | none => exact ⟨_, step_idle hr hp⟩
    | some cw =>
      cases hl : s.latency with
      | zero =>
        obtain ⟨t, ht⟩ := everyCommandWordCompletes cw s
        exact ⟨_, step_of_ready ⟨hr, hp, hl⟩ ht⟩
      | succ n => exact ⟨_, step_busy hr hp hl⟩

/-! Entry into reset, hold and release -/

/-- A step that drives `rst_n` low resets the core, idle or busy: nothing of it is left but the draws and the reads
(70_reset_and_hazards.md R280, R281). -/
theorem step_setRst_low {s : State} {rest : List HostOp} (hr : s.rstN = true) (hp : s.pend = none ∨ 0 < s.latency)
    (hh : s.host = .setRst false :: rest) : step s = .next ((s.holdReset.setRstN false).setHost rest) := by
  obtain ⟨n, hstep⟩ := step_hostTurn hr hp
  rw [hstep, hostTurn, State.setLatency_host, hh]
  rfl

/-- Settles O47. -/
theorem resetAbandonsThePendingCommand : Obligations.ResetAbandonsThePendingCommand := by
  intro s cw n rest hr _ hl hh
  exact ⟨_, step_setRst_low hr (.inr (by omega)) hh, rfl, rfl, drivenPin_atResetValues s false rest⟩

/-- Settles O48. -/
theorem resetHoldsAndReleases : Obligations.ResetHoldsAndReleases := by
  intro s
  refine ⟨fun hr hp rest hh => ?entry, fun hr hh => ?hold, fun hr level rest hh => ?drive⟩
  case entry => exact ⟨_, step_setRst_low hr (.inl hp) hh, rfl, drivenPin_atResetValues s false rest⟩
  case hold => exact ⟨_, (step_inReset hr).trans (resetTurn_nil hh), hr, holdReset_atResetValues s⟩
  case drive =>
    exact ⟨_, (step_inReset hr).trans (resetTurn_setRst hh), rfl, rfl, drivenPin_atResetValues s level rest⟩

/-! The observable result of a run -/

/-- Settles O57: the observation reads RKRAM through the RK window alone, which shows no word at or above SWORDS. -/
theorem observationHidesRoundKeyWords : Obligations.ObservationHidesRoundKeyWords := by
  intro s t h
  have ht : t = s.setRam t.rkram := h.1
  rw [ht] at h ⊢
  rw [observe, observe, rkWindow_setRam h]
  rfl

end Sys2Proof.Machine
end
